-- ==== Sys2Proof/Word.lean ====
section
/-! DEFINITION. The two bit vectors of the spec: the byte of R9 and the 32-bit word of R10. -/

namespace Sys2Proof

/-- A byte: 8 bits (R9). -/
abbrev Byte := BitVec 8

/-- A word, `u32`: an unsigned 32-bit value whose addition wraps modulo 2^32 (R10). -/
abbrev Word := BitVec 32

end Sys2Proof
end

