-- ==== Sys2Proof/Config.lean ====
section
/-! DEFINITION. The parameters of R7 as plain data, the reference configuration CFG-A of R8, and the model's free values: opaque
constants, so that nothing can be proved of them. -/

namespace Sys2Proof

/-- One row of the external parameter table (R183). `ratio` is opaque in the spec and no rule reads it. -/
structure TableRow where
  multiplier : Word
  r : Word
  p : Word
  ratio : Nat
  deriving DecidableEq, Repr

/-- Which end of a 32-byte hash value holds the most significant byte (R62). -/
inductive HashOrder where
  | le | be
  deriving DecidableEq, Repr

/-- The implementation parameters of R7. They are fixed for the life of a machine: State carries them so that every
statement about a state holds for every configuration, and no step changes them. DESIGN CHOICE, log entry 1.

The three parameters that R7 gives as functions, `IOFF`, `MaskOf` and `SizeExp`, are plain data too: the value at each argument
where the function departs from the spec's decided rule. Their arguments are finitely many (r up to R_MAX, 32 bytes, one word),
so every function is one of these (log entry 7). -/
structure Config where
  rMax : Nat
  vBytes : Nat
  addrBits : Nat
  table : List TableRow
  /-- Where `IOFF` has no exception, it lies this many bytes before the end of the block: 64 by decision D14, 8 in the
  rejected literal reading (R159). -/
  ioffFromEnd : Nat
  /-- The exceptions of `IOFF`: pairs (r, IOFF(r)). -/
  ioffExceptions : List (Nat × Nat)
  hashOrder : HashOrder
  /-- The exceptions of `MaskOf` to R187: pairs (X, (k, mask)), with k from 0 to 256. -/
  maskExceptions : List (Vector Byte 32 × Fin 257 × Vector Byte 32)
  /-- The exceptions of `SizeExp` to bits 31:24 (R181): pairs (d, SizeExp(d)). -/
  sizeExceptions : List (Word × Nat)
  base : Nat
  deriving DecidableEq, Repr

/-- SIZE_MAX = 2^ADDR_BITS − 1 (R7). -/
def Config.sizeMax (c : Config) : Nat := 2 ^ c.addrBits - 1

/-- TABLE_LEN (R7): the number of rows of the table. -/
def Config.tableLen (c : Config) : Nat := c.table.length

/-- Row `i` of the synthetic table of 95_test_vectors.md section 2.7; it has no relation to any real table. -/
def Config.syntheticRow (i : Nat) : TableRow :=
  if i = 63 then ⟨0, 1, 1, 63⟩
  else if i = 61 then ⟨3, 1, 1, 61⟩
  else if i = 59 then ⟨4194304, 1, 1, 59⟩
  else if i = 57 then ⟨2097152, 1, 1, 57⟩
  else ⟨BitVec.ofNat 32 (2 ^ (i / 8)), BitVec.ofNat 32 (1 + i % 4), BitVec.ofNat 32 (1 + i % 2), i⟩

/-- The reference configuration CFG-A (R8). -/
def Config.cfgA : Config where
  rMax := 8
  vBytes := 1048576
  addrBits := 32
  table := (List.range 64).map Config.syntheticRow
  ioffFromEnd := 64
  ioffExceptions := []
  hashOrder := .le
  maskExceptions := []
  sizeExceptions := []
  base := 0

/-- The block's three byte memories (R41, R43, R44). -/
inductive Ram where
  | buf | xy | v
  deriving DecidableEq, Repr

/-- FREE VALUE: the byte a memory holds at an address after the given reset, until something writes it (R262, U1). -/
opaque Config.resetByte : Ram → Nat → Nat → Byte

/-- FREE VALUE: the datapath words after the given reset, x[i] at index i and w[i] at index 16 + i (R20, R46). -/
opaque Config.resetDatapathWord : Nat → Nat → Word

/-- FREE VALUE: how many more host accesses are performed between the acceptance of the given command (counted from 0) and
its completion step (R275: finite and unspecified). -/
opaque Config.completionDelay : Nat → Nat

/-- FREE VALUE: what TBLIDX holds when the selected index does not fit its 32 bits; no rule says (log entry 8). -/
opaque Config.wideTableIndex : Nat → Word

end Sys2Proof
end

