-- ==== Sys2Proof/Syntax.lean ====
section
/-! DEFINITION. What the block can be told: the nine commands (R93), the host's bus actions (R70, R260) and the lines of a host
script (R98, R99). -/

namespace Sys2Proof

/-- The nine commands of R93. A command has no operand field: every operand is a named register or buffer (R90, R97). -/
inductive Instr where
  /-- Salsa20/8 on BUF[0..63] (R127). -/
  | salsa
  /-- BlockMix on BUF[0..128r−1] (R147). -/
  | bmix
  /-- ROMix on BUF[0..128r−1] through V (R163). -/
  | romix
  /-- Validate (N, R, P) (R165). -/
  | pchk
  /-- Select (N, r, p) from DIFF through TABLE (R184). -/
  | hsel
  /-- XOR S with the header and append its last four bytes (R185). -/
  | hxor
  /-- Leading-zero count and mask of H (R188). -/
  | hmask
  /-- Combine H and S2 under the mask (R189). -/
  | hcomb
  /-- Zero every data buffer (R210). -/
  | wipe
  deriving DecidableEq, Repr

/-- The ten registers of the map of R24. -/
inductive RegName where
  | cmd | status | ie | n | r | p | mult | diff | tblidx | k
  deriving DecidableEq, Repr

/-- The seven byte-buffer windows of the map of R24. -/
inductive WindowName where
  | hdr | s | h | s2 | mask | out | buf
  deriving DecidableEq, Repr

/-- Byte offset of a register from BASE (R24). -/
def RegName.offset : RegName → Nat
  | .cmd => 0x000
  | .status => 0x004
  | .ie => 0x008
  | .n => 0x00C
  | .r => 0x010
  | .p => 0x014
  | .mult => 0x018
  | .diff => 0x01C
  | .tblidx => 0x020
  | .k => 0x024

/-- Byte offset of the first byte of a window from BASE (R24). -/
def WindowName.offset : WindowName → Nat
  | .hdr => 0x040
  | .s => 0x090
  | .h => 0x0E0
  | .s2 => 0x100
  | .mask => 0x120
  | .out => 0x140
  | .buf => 0x1000

/-- One thing the world outside does to the block. Accesses carry their width in bits and their bus address, so that the
accesses R64 turns away can be written down too. -/
inductive HostEvent where
  /-- `HostRead` (R13): a read of `width` bits at the bus address `addr`. -/
  | read (width addr : Nat)
  /-- `HostWrite` (R13): a write of `width` bits at the bus address `addr`; `data` is what a 32-bit write carries. -/
  | write (width addr : Nat) (data : Word)
  /-- The POLL line of R99: reads of STATUS repeated until the value read has BUSY = 0. -/
  | poll
  /-- `rst` is asserted and released (R260). -/
  | reset
  deriving DecidableEq, Repr

/-- The block's answer to one access (R225, R239). -/
inductive BusResponse where
  | value (v : Word)
  | done
  | busError
  deriving DecidableEq, Repr

/-- The ways to write an offset in a script line (R98): any number, a register's name, or `WINDOW+n`. -/
inductive ScriptOffset where
  | number (off : Nat)
  | reg (name : RegName)
  | window (name : WindowName) (n : Nat)
  deriving DecidableEq, Repr

/-- The byte offset from BASE that it stands for (R98, R24). -/
def ScriptOffset.value : ScriptOffset → Nat
  | .number off => off
  | .reg name => name.offset
  | .window name n => name.offset + n

/-- One line of a host script (R98, R99). -/
inductive HostLine where
  /-- `WR offset, value`. -/
  | wr (off : ScriptOffset) (v : Word)
  /-- `RD offset`, with the expected value where the line states one. -/
  | rd (off : ScriptOffset) (expected : Option Word)
  /-- `CMD mnemonic`. -/
  | cmd (i : Instr)
  /-- `POLL`. -/
  | poll
  /-- `RUN mnemonic`. -/
  | run (i : Instr)
  /-- `ACK`. -/
  | ack
  /-- `WRB WINDOW+n, bytes`. -/
  | wrb (name : WindowName) (n : Nat) (bytes : List Byte)
  /-- `RDB WINDOW+n, count`, with the expected bytes where the line states them. -/
  | rdb (name : WindowName) (n : Nat) (count : Nat) (expected : Option (List Byte))
  deriving DecidableEq, Repr

end Sys2Proof
end

