-- ==== Sys2Proof/WellFormed.lean ====
section
/-! DEFINITION. The checks on written-down terms: commands, host-script lines and configurations. -/

namespace Sys2Proof

/-- A command has no operand field, so every command is well formed (R90). -/
def Instr.wf : Instr → Bool
  | .salsa | .bmix | .romix | .pchk | .hsel | .hxor | .hmask | .hcomb | .wipe => true

/-- R98 asks of `WINDOW+n` that n be a multiple of 4, and nothing of an offset written as a number: the access it stands for
may well get BusError. -/
def ScriptOffset.wf : ScriptOffset → Bool
  | .number _ => true
  | .reg _ => true
  | .window _ n => n % 4 == 0

/-- The checks of R98 and R99 on a script line: the n of `WINDOW+n` is a multiple of 4, and so are byte counts. -/
def HostLine.wf : HostLine → Bool
  | .wr off _ => off.wf
  | .rd off _ => off.wf
  | .cmd i => i.wf
  | .poll => true
  | .run i => i.wf
  | .ack => true
  | .wrb _ n bytes => n % 4 == 0 && bytes.length % 4 == 0
  | .rdb _ n count expected =>
    n % 4 == 0 && count % 4 == 0 && (match expected with | none => true | some bs => bs.length == count)

/-- The 8 bytes Integerify decodes lie inside the block of 128·r bytes (R7), for the rule and for every exception. -/
def Config.ioffWf (c : Config) : Bool :=
  decide (8 ≤ c.ioffFromEnd) && decide (c.ioffFromEnd ≤ 128) &&
    c.ioffExceptions.all fun e => decide (e.2 + 8 ≤ 128 * e.1)

/-- The constraints R7 puts on the parameters. -/
def Config.wf (c : Config) : Bool :=
  decide (1 ≤ c.rMax) && decide (256 * c.rMax ≤ c.sizeMax) &&
  decide (128 ≤ c.vBytes) && decide (c.vBytes ≤ c.sizeMax) &&
  decide (8 ≤ c.addrBits) && c.ioffWf

end Sys2Proof
end

