-- ==== Sys2Proof/Decode.lean ====
section
/-! DEFINITION. The command decoder of R92 to R95, total on every word and naming why it rejects one, and the encoder of R93. -/

namespace Sys2Proof

/-- Why a word is no command. Both reasons end as IllegalCommand (R224). -/
inductive DecodeReject where
  /-- One of the bits 31:8 is set (R94). -/
  | reservedBits
  /-- The `op` is none of R93 (R95). -/
  | unlistedOp
  deriving DecidableEq, Repr

/-- The field `op`, bits 7:0 of a command word (R90). -/
def opField (w : Word) : Byte := w.extractLsb' 0 8

/-- The field `rsv`, bits 31:8 of a command word (R90). -/
def rsvField (w : Word) : BitVec 24 := w.extractLsb' 8 24

/-- The opcode map of R93; every byte it does not list is rejected (R95). -/
def decodeOp (op : Byte) : Except DecodeReject Instr :=
  if op = 0x01 then .ok .salsa
  else if op = 0x02 then .ok .bmix
  else if op = 0x03 then .ok .romix
  else if op = 0x04 then .ok .pchk
  else if op = 0x10 then .ok .hsel
  else if op = 0x11 then .ok .hxor
  else if op = 0x12 then .ok .hmask
  else if op = 0x13 then .ok .hcomb
  else if op = 0x1F then .ok .wipe
  else .error .unlistedOp

/-- The decoder: the reserved bits first, then the opcode byte (R92, R229). -/
def decode (w : Word) : Except DecodeReject Instr :=
  if rsvField w ≠ 0 then .error .reservedBits else decodeOp (opField w)

/-- The match word of each command (R93). -/
def encode : Instr → Word
  | .salsa => 0x00000001
  | .bmix => 0x00000002
  | .romix => 0x00000003
  | .pchk => 0x00000004
  | .hsel => 0x00000010
  | .hxor => 0x00000011
  | .hmask => 0x00000012
  | .hcomb => 0x00000013
  | .wipe => 0x0000001F

/-- The command the decoder reads from the `nbits` bits `w`; a command is one 32-bit word, so bits above `nbits` are 0 and a
number that needs more than 32 bits is no command word (R90). -/
def decodeTableWord (nbits w : Nat) : Option Instr :=
  if w % 2 ^ nbits < 2 ^ 32 then
    match decode (BitVec.ofNat 32 (w % 2 ^ nbits)) with
    | .ok i => some i
    | .error _ => none
  else none

end Sys2Proof
end

