-- ==== Sys2Proof/Machine/State.lean ====
section
/-! DEFINITION. The state of the block as plain data (R24, R45), the state after reset (R46), and the two reason types of the
host's interface. -/

namespace Sys2Proof.Machine

open Sys2Proof

/-- The error codes of R220. `outputTooLarge` is in the taxonomy and no command raises it (R222). -/
inductive ErrorCode where
  | invalidParameter
  | outputTooLarge
  | resourceExhausted
  | illegalCommand
  deriving DecidableEq, Repr

/-- STATUS (R26). `error = none` is ERROR = 0 with ERRCODE = 0, and `error = some c` is ERROR = 1 with ERRCODE = c: the two
fields are set and cleared together (R26, R27, R226). Reserved bits hold nothing. -/
structure Status where
  busy : Bool
  done : Bool
  error : Option ErrorCode
  op : Byte
  deriving DecidableEq, Repr

/-- The Salsa20/8 datapath: working words x and feed-forward words w (R20). -/
structure Datapath where
  x : Vector Word 16
  w : Vector Word 16
  deriving DecidableEq, Repr

/-- A byte memory as the list of the bytes written since reset, by strictly rising address. -/
abbrev Memory := List Host.Cell

/-- What a memory holds for an address nothing has written since reset: no value. A command or a host read that meets it gets
the free byte `Config.resetByte` (R262, log entry 2). -/
def Memory.unlisted : Option Byte := none

/-- The canonical form of a memory: addresses strictly rise, and no entry equals what an unlisted address reads as. -/
abbrev Memory.wf (m : Memory) : Prop :=
  m.Pairwise (fun c d => c.1 < d.1) ∧ ∀ c ∈ m, some c.2 ≠ Memory.unlisted

/-- The whole machine. -/
structure State where
  /-- The parameters of R7 (the model's own field, log entry 1). -/
  cfg : Config
  /-- STATUS (R26). -/
  status : Status
  /-- IE.EN (R28). -/
  ieEn : Bool
  /-- N, the cost factor (R29). -/
  n : Word
  /-- R, the block-size multiplier (R30). -/
  r : Word
  /-- P, the parallelism (R31). -/
  p : Word
  /-- MULT (R32). -/
  mult : Word
  /-- DIFF (R33). -/
  diff : Word
  /-- TBLIDX (R34). -/
  tblidx : Word
  /-- K, bits 8:0 (R35). -/
  k : BitVec 9
  /-- CURW, the latched command word (R45). -/
  curw : Word
  /-- HDR (R37). -/
  hdr : Vector Byte 80
  /-- S (R38). -/
  sbuf : Vector Byte 80
  /-- H (R39). -/
  h : Vector Byte 32
  /-- S2 (R39). -/
  s2 : Vector Byte 32
  /-- MASK (R40). -/
  mask : Vector Byte 32
  /-- OUT (R40). -/
  out : Vector Byte 32
  /-- BUF, keyed by the byte's index in the buffer (R41). -/
  buf : Memory
  /-- XY, hidden scratch (R43, R79). -/
  xy : Memory
  /-- V, the hidden table memory (R44, R77). -/
  v : Memory
  /-- x[0..15] and w[0..15], hidden (R20). -/
  dp : Datapath
  /-- How many resets came before: indexes the free values after reset (the model's own field, log entry 2). -/
  resets : Nat
  /-- How many commands were accepted: indexes the free completion times (the model's own field, log entry 3). -/
  accepted : Nat
  /-- How many more host accesses come before the completion step of the command in flight (the model's own field, log
  entry 3). -/
  delay : Nat
  /-- The host's accesses still to come, in issue order (the model's own field, log entry 4). -/
  pending : List HostEvent
  /-- The answers to the accesses performed, newest first (the model's own field, log entry 4). -/
  responses : List BusResponse
  deriving DecidableEq, Repr

/-- Reasons for the machine to stop with a fault. There are none: an error of a command is a next state (R230), BusError is a
response to the host (R225), and every access to V is in range by the checks made before it (R77, R240). -/
inductive Fault where
  deriving DecidableEq, Repr

/-- Reasons for the model to give no meaning. -/
inductive Refusal where
  /-- Raised by an arm of exec whose command has no meaning yet; safe, since nothing can be proved of a next state. No arm
  raises it. -/
  | notModelled (mnemonic : String)
  deriving DecidableEq, Repr

/-- The datapath words after the given reset: free values (R20, R46). -/
def Datapath.afterReset (resets : Nat) : Datapath where
  x := Vector.ofFn fun i => Config.resetDatapathWord resets i.val
  w := Vector.ofFn fun i => Config.resetDatapathWord resets (16 + i.val)

/-- The reset state of R46 and R261 of a block with the given parameters, after the given number of earlier resets. The
memories list nothing, so that every byte of them is a free value (R262). -/
def State.resetOf (cfg : Config) (resets : Nat) : State where
  cfg := cfg
  status := ⟨false, false, none, 0⟩
  ieEn := false
  n := 0
  r := 0
  p := 0
  mult := 0
  diff := 0
  tblidx := 0
  k := 0
  curw := 0
  hdr := Vector.replicate 80 0
  sbuf := Vector.replicate 80 0
  h := Vector.replicate 32 0
  s2 := Vector.replicate 32 0
  mask := Vector.replicate 32 0
  out := Vector.replicate 32 0
  buf := []
  xy := []
  v := []
  dp := Datapath.afterReset resets
  resets := resets
  accepted := 0
  delay := 0
  pending := []
  responses := []

/-- The machine right after power-on, with the reference configuration CFG-A (R8; log entry 1). -/
def State.reset : State := State.resetOf Config.cfgA 0

end Sys2Proof.Machine
end

