-- ==== Sys2Proof/Machine/Flags.lean ====
section
/-! DEFINITION. STATUS: its word (R26), what the issue, the completion and a host write do to it (R27, R91, R92), the numbers of
the error codes (R220), and the interrupt output (R227). -/

namespace Sys2Proof.Machine

open Sys2Proof

/-- The number of an error code in ERRCODE (R220). -/
def ErrorCode.number : ErrorCode → BitVec 4
  | .invalidParameter => 1
  | .outputTooLarge => 2
  | .resourceExhausted => 3
  | .illegalCommand => 4

/-- STATUS.ERROR (R26). -/
def Status.errorBit (st : Status) : Bool := st.error.isSome

/-- STATUS.ERRCODE (R26): 0 when ERROR = 0. -/
def Status.errcode (st : Status) : BitVec 4 :=
  match st.error with
  | none => 0
  | some c => c.number

/-- The 32-bit word a read of STATUS returns (R26): OP in 23:16, ERRCODE in 11:8, ERROR, DONE, BUSY in 2, 1, 0, the rest 0. -/
def Status.word (st : Status) : Word :=
  (0 : BitVec 8) ++ st.op ++ (0 : BitVec 4) ++ st.errcode ++ (0 : BitVec 5) ++
    BitVec.ofBool st.errorBit ++ BitVec.ofBool st.done ++ BitVec.ofBool st.busy

/-- Acceptance of the command word `w` (R91): DONE cleared, OP latched, BUSY set. -/
def Status.accepting (st : Status) (w : Word) : Status :=
  { st with done := false, op := opField w, busy := true }

/-- Completion without error (R92): DONE set, BUSY cleared. -/
def Status.completed (st : Status) : Status := { st with done := true, busy := false }

/-- Completion with an error (R92, R230): ERROR and ERRCODE set, BUSY cleared, DONE and OP as they are. -/
def Status.failed (st : Status) (c : ErrorCode) : Status := { st with error := some c, busy := false }

/-- A host write of `v` to STATUS (R27): bit 1 clears DONE, bit 2 clears ERROR and ERRCODE, the rest is ignored. -/
def Status.acknowledge (st : Status) (v : Word) : Status :=
  { st with
    done := if v.getLsbD 1 then false else st.done
    error := if v.getLsbD 2 then none else st.error }

/-- The interrupt output (R227): IE.EN AND (DONE OR ERROR). -/
def State.irq (s : State) : Bool := s.ieEn && (s.status.done || s.status.errorBit)

end Sys2Proof.Machine
end

