-- ==== Sys2Proof/Machine/Ops.lean ====
section
/-! DEFINITION. The shared operations: byte order (R12), byte memories, the end of a command without and with an error (R92,
R230), the acknowledge (R231), the answer to a host access, and reset (R260). -/

namespace Sys2Proof.Machine

open Sys2Proof

/-! ## Byte order (R12) -/

/-- The number a byte sequence stands for, least significant byte first. -/
def leNat : List Byte → Nat
  | [] => 0
  | b :: bs => b.toNat + 256 * leNat bs

/-- `le32dec` of the first four bytes (R12). -/
def le32dec (b : List Byte) : Word := BitVec.ofNat 32 (leNat (b.take 4))

/-- Byte `i` of a word, `w[8i+7 : 8i]` (R12). -/
def wordByte (w : Word) (i : Nat) : Byte := w.extractLsb' (8 * i) 8

/-- `le32enc` (R12). -/
def le32enc (w : Word) : List Byte := [wordByte w 0, wordByte w 1, wordByte w 2, wordByte w 3]

/-- `le64dec` of the first eight bytes (R12). -/
def le64dec (b : List Byte) : Nat := leNat (b.take 8)

/-- `blkxor` of two byte sequences of equal length (R141). -/
def blkxor (a b : List Byte) : List Byte := List.zipWith (· ^^^ ·) a b

/-! ## Byte memories -/

/-- The cells of a byte sequence stored from address `a` up. -/
def Memory.cells (a : Nat) (bytes : List Byte) : Memory := (bytes.zipIdx a).map fun c => (c.2, c.1)

/-- The byte written last at `a`, or what an unlisted address holds. -/
def Memory.lookup (m : Memory) (a : Nat) : Option Byte :=
  match List.lookup a m with
  | some b => some b
  | none => Memory.unlisted

/-- Replace the bytes from `a` up by `bytes`; every other address keeps its entry. -/
def Memory.store (m : Memory) (a : Nat) (bytes : List Byte) : Memory :=
  m.filter (fun c => decide (c.1 < a)) ++ Memory.cells a bytes ++
    m.filter (fun c => decide (a + bytes.length ≤ c.1))

/-- The entries at the `n` addresses from `a` up. -/
def Memory.window (m : Memory) (a n : Nat) : Memory :=
  m.filter (fun c => decide (a ≤ c.1) && decide (c.1 < a + n))

/-- The byte at `a`, where `fresh` says what a byte nothing has written is. -/
def Memory.byte (fresh : Nat → Byte) (m : Memory) (a : Nat) : Byte :=
  match Memory.lookup m a with
  | some b => b
  | none => fresh a

/-- The `n` bytes from `a` up. -/
def Memory.load (fresh : Nat → Byte) (m : Memory) (a n : Nat) : List Byte :=
  let wnd := Memory.window m a n
  (List.range n).map fun i => Memory.byte fresh wnd (a + i)

/-! ## The end of a command, the acknowledge, reset -/

/-- The completion of a command that ended without error (R92). -/
def State.finish (s : State) : State := { s with status := s.status.completed }

/-- Error entry (R92, R230): the one operation every error goes through. It records the code and clears BUSY and changes
nothing else. -/
def State.raiseError (s : State) (c : ErrorCode) : State := { s with status := s.status.failed c }

/-- Error return and the acknowledge of DONE: a host write of `v` to STATUS (R27, R231). -/
def State.acknowledge (s : State) (v : Word) : State := { s with status := s.status.acknowledge v }

/-- The completion of a word that is none of the nine commands (R94, R95, R224). -/
def State.illegalCommand (s : State) : State := s.raiseError .illegalCommand

/-- Issue of the command word `w` while BUSY = 0 (R91): dropped while ERROR = 1, else accepted and latched. The delay until the
completion step is a free value (R275, log entry 3). -/
def State.issue (s : State) (w : Word) : State :=
  match s.status.error with
  | some _ => s
  | none =>
    { s with
      status := s.status.accepting w
      curw := w
      delay := Config.completionDelay s.accepted
      accepted := s.accepted + 1 }

/-- The block answers an access of the host. -/
def State.respond (s : State) (r : BusResponse) : State := { s with responses := r :: s.responses }

/-- The host's next event is taken: `rest` is left, and while a command is in flight one access less comes before its
completion step (log entries 3 and 4). -/
def State.take (s : State) (rest : List HostEvent) : State :=
  { s with pending := rest, delay := if s.status.busy then s.delay - 1 else s.delay }

/-- `rst` (R260, R263): the reset state, whatever the block was doing. What the host still has to do and what it was told are
not the block's to forget, and the memories' free values are drawn anew (R262). -/
def State.applyReset (s : State) : State :=
  { State.resetOf s.cfg (s.resets + 1) with
    accepted := s.accepted
    pending := s.pending
    responses := s.responses }

end Sys2Proof.Machine
end

