-- ==== Sys2Proof/Machine/Operands.lean ====
section
/-! DEFINITION. The operand forms: BUF, XY, V and the datapath for the commands (R41, R43, R44, R20), and for the host the
registers and windows of the map of R24, as words. -/

namespace Sys2Proof.Machine

open Sys2Proof

/-! ## The byte memories as operands of commands -/

/-- The free bytes of a memory after the last reset (R262). -/
def State.fresh (s : State) (ram : Ram) : Nat → Byte := fun a => Config.resetByte ram s.resets a

/-- BUF[a] (R41). -/
def State.bufByte (s : State) (a : Nat) : Byte := Memory.byte (s.fresh .buf) s.buf a

/-- XY[a] (R43). -/
def State.xyByte (s : State) (a : Nat) : Byte := Memory.byte (s.fresh .xy) s.xy a

/-- The byte of V at address a (R77). -/
def State.vByte (s : State) (a : Nat) : Byte := Memory.byte (s.fresh .v) s.v a

/-- BUF[0..n−1] (R41). -/
def State.loadBuf (s : State) (n : Nat) : List Byte := Memory.load (s.fresh .buf) s.buf 0 n

/-- BUF[a..] <- bytes. -/
def State.storeBuf (s : State) (a : Nat) (bytes : List Byte) : State :=
  { s with buf := Memory.store s.buf a bytes }

/-- XY[a..] <- bytes. -/
def State.storeXy (s : State) (a : Nat) (bytes : List Byte) : State :=
  { s with xy := Memory.store s.xy a bytes }

/-- V <- m, what a command's `MemWrite`s made of it (R77). -/
def State.setV (s : State) (m : Memory) : State := { s with v := m }

/-- The datapath words an evaluation of Salsa208 leaves behind (R20). -/
def State.setDatapath (s : State) (d : Datapath) : State := { s with dp := d }

/-! ## The host's view (R24) -/

/-- What stands at an offset of the map of R24. `window name t` is the word of the named window whose first byte has index `t`. -/
inductive Place where
  | reg (name : RegName)
  | window (name : WindowName) (t : Nat)
  | reserved
  | unmapped
  deriving DecidableEq, Repr

/-- The map of R24, for offsets that are multiples of 4. -/
def place (c : Config) (off : Nat) : Place :=
  if off < 0x028 then
    if off < 0x004 then .reg .cmd
    else if off < 0x008 then .reg .status
    else if off < 0x00C then .reg .ie
    else if off < 0x010 then .reg .n
    else if off < 0x014 then .reg .r
    else if off < 0x018 then .reg .p
    else if off < 0x01C then .reg .mult
    else if off < 0x020 then .reg .diff
    else if off < 0x024 then .reg .tblidx
    else .reg .k
  else if off < 0x040 then .reserved
  else if off < 0x090 then .window .hdr (off - 0x040)
  else if off < 0x0E0 then .window .s (off - 0x090)
  else if off < 0x100 then .window .h (off - 0x0E0)
  else if off < 0x120 then .window .s2 (off - 0x100)
  else if off < 0x140 then .window .mask (off - 0x120)
  else if off < 0x160 then .window .out (off - 0x140)
  else if off < 0x1000 then .reserved
  else if off < 0x1000 + 128 * c.rMax then .window .buf (off - 0x1000)
  else .unmapped

/-- The word at byte `t` of a small buffer, little-endian (R42, R61). -/
def windowWord {n : Nat} (b : Vector Byte n) (t : Nat) : Word := le32dec (b.toList.drop t)

/-- The small buffer after a host write of `v` at byte `t`: exactly the four bytes from `t` are replaced (R42, R61). -/
def putWindowWord {n : Nat} (b : Vector Byte n) (t : Nat) (v : Word) : Vector Byte n :=
  Vector.ofFn fun i => if t ≤ i.val ∧ i.val < t + 4 then wordByte v (i.val - t) else b[i]

/-- What a host read of a register returns (R25, R26, R28 to R35). -/
def State.regWord (s : State) : RegName → Word
  | .cmd => 0
  | .status => s.status.word
  | .ie => BitVec.setWidth 32 (BitVec.ofBool s.ieEn)
  | .n => s.n
  | .r => s.r
  | .p => s.p
  | .mult => s.mult
  | .diff => s.diff
  | .tblidx => s.tblidx
  | .k => BitVec.setWidth 32 s.k

/-- What a host read of a window word returns (R42, R61). -/
def State.windowWord (s : State) (name : WindowName) (t : Nat) : Word :=
  match name with
  | .hdr => Machine.windowWord s.hdr t
  | .s => Machine.windowWord s.sbuf t
  | .h => Machine.windowWord s.h t
  | .s2 => Machine.windowWord s.s2 t
  | .mask => Machine.windowWord s.mask t
  | .out => Machine.windowWord s.out t
  | .buf => le32dec (Memory.load (s.fresh .buf) s.buf t 4)

/-- The answer to a host read of a place (R36, R64). -/
def State.readPlace (s : State) : Place → BusResponse
  | .reg name => .value (s.regWord name)
  | .window name t => .value (s.windowWord name t)
  | .reserved => .value 0
  | .unmapped => .busError

/-- A host write of a register: CMD issues (R91), STATUS acknowledges (R27), IE, N, R, P and DIFF hold what is written (R28 to
R31, R33), MULT, TBLIDX and K ignore it (R36). -/
def State.writeReg (s : State) (name : RegName) (v : Word) : State :=
  match name with
  | .cmd => s.issue v
  | .status => s.acknowledge v
  | .ie => { s with ieEn := v.getLsbD 0 }
  | .n => { s with n := v }
  | .r => { s with r := v }
  | .p => { s with p := v }
  | .mult => s
  | .diff => { s with diff := v }
  | .tblidx => s
  | .k => s

/-- A host write of a window word: HDR, S, H, S2 and BUF hold it, MASK and OUT ignore it (R36 to R41). -/
def State.writeWindow (s : State) (name : WindowName) (t : Nat) (v : Word) : State :=
  match name with
  | .hdr => { s with hdr := putWindowWord s.hdr t v }
  | .s => { s with sbuf := putWindowWord s.sbuf t v }
  | .h => { s with h := putWindowWord s.h t v }
  | .s2 => { s with s2 := putWindowWord s.s2 t v }
  | .mask => s
  | .out => s
  | .buf => s.storeBuf t (le32enc v)

/-- A host write of a place that is mapped; a reserved offset ignores it (R36). -/
def State.writePlace (s : State) (p : Place) (v : Word) : State :=
  match p with
  | .reg name => s.writeReg name v
  | .window name t => s.writeWindow name t v
  | .reserved => s
  | .unmapped => s

end Sys2Proof.Machine
end

