-- ==== Sys2Proof/Machine/Bus.lean ====
section
/-! DEFINITION. The host's accesses: which get BusError (R64), which are stalled while BUSY = 1 (R71), and what one access does
(R36, R66, R91). -/

namespace Sys2Proof.Machine

open Sys2Proof

/-- What an access of `width` bits at the bus address `addr` reaches. An access below BASE, of another width than 32 bits or at
an offset that is not a multiple of 4 reaches nothing of the block (R64; below BASE: log entry 5). -/
def accessPlace (c : Config) (width addr : Nat) : Place :=
  if addr < c.base then .unmapped
  else if width ≠ 32 then .unmapped
  else if (addr - c.base) % 4 ≠ 0 then .unmapped
  else place c (addr - c.base)

/-- The places whose accesses complete at once whatever BUSY is: STATUS, IE, and what gets BusError (R71). -/
def Place.neverStalls : Place → Bool
  | .reg .status => true
  | .reg .ie => true
  | .unmapped => true
  | _ => false

/-- Does this event of the host complete at once while BUSY = 1? A POLL reads STATUS, and `rst` needs no command to end (R71,
R99, R263). -/
def atOnce (c : Config) : HostEvent → Bool
  | .read width addr => (accessPlace c width addr).neverStalls
  | .write width addr _ => (accessPlace c width addr).neverStalls
  | .poll => true
  | .reset => true

/-- The answer to a host write of a place (R36, R64, R239). -/
def writeAnswer : Place → BusResponse
  | .unmapped => .busError
  | _ => .done

/-- One event of the host, which leaves `rest` to come. -/
def State.hostStep (s : State) (e : HostEvent) (rest : List HostEvent) : State :=
  match e with
  | .read width addr => (s.take rest).respond (s.readPlace (accessPlace s.cfg width addr))
  | .write width addr data =>
    ((s.take rest).writePlace (accessPlace s.cfg width addr) data).respond (writeAnswer (accessPlace s.cfg width addr))
  | .poll => (s.take (if s.status.busy then .poll :: rest else rest)).respond (.value s.status.word)
  | .reset => (s.take rest).applyReset

end Sys2Proof.Machine
end

