-- ==== Sys2Proof/Machine/Housekeeping.lean ====
section
/-! DEFINITION. The WIPE command (R210). -/

namespace Sys2Proof.Machine

open Sys2Proof

/-- The datapath with every word 0 (R210). -/
def Datapath.zero : Datapath := ⟨Vector.replicate 16 0, Vector.replicate 16 0⟩

/-- Every data buffer, K and the hidden memories and words zeroed; the parameters, IE and STATUS stay (R210). -/
def State.zeroBuffers (s : State) : State :=
  { s with
    buf := Memory.store s.buf 0 (List.replicate (128 * s.cfg.rMax) 0)
    xy := Memory.store s.xy 0 (List.replicate (256 * s.cfg.rMax) 0)
    v := Memory.store s.v 0 (List.replicate s.cfg.vBytes 0)
    hdr := Vector.replicate 80 0
    sbuf := Vector.replicate 80 0
    h := Vector.replicate 32 0
    s2 := Vector.replicate 32 0
    mask := Vector.replicate 32 0
    out := Vector.replicate 32 0
    k := 0
    dp := Datapath.zero }

/-- WIPE (R210). -/
def execWipe (s : State) : Host.Outcome State Fault Refusal := .next s.zeroBuffers.finish

end Sys2Proof.Machine
end

