-- ==== Sys2Proof/Machine/HybridHash.lean ====
section
/-! DEFINITION. The HybridHash selector and mask combiner: table selection (R181 to R184), header XOR (R185), the leading-zero
count and mask (R62, R186, R187) and the commands HSEL, HXOR, HMASK, HCOMB. -/

namespace Sys2Proof.Machine

open Sys2Proof

/-- `SizeExp(d)` (R7, R181). -/
def sizeExp (c : Config) (d : Word) : Nat := (c.sizeExceptions.lookup d).getD (d.extractLsb' 24 8).toNat

/-- `TableIndex(d) = TABLE_LEN − 1 − 2·SizeExp(d)`, in the integers (R182). -/
def tableIndex (c : Config) (d : Word) : Int := (c.tableLen : Int) - 1 - 2 * (sizeExp c d : Int)

/-- TABLE(idx), or nothing where the index is out of range (R182, R184). -/
def tableRow (c : Config) (idx : Int) : Option TableRow := if idx < 0 then none else c.table[idx.toNat]?

/-- An index as TBLIDX holds it (R34); one that does not fit 32 bits leaves a free value (log entry 8). -/
def tblidxWord (idx : Nat) : Word := if idx < 2 ^ 32 then BitVec.ofNat 32 idx else Config.wideTableIndex idx

/-- What HSEL writes when its two tests have passed (R184). -/
def State.selectRow (s : State) (idx : Nat) (row : TableRow) : State :=
  { s with
    tblidx := tblidxWord idx
    mult := row.multiplier
    r := row.r
    p := row.p
    n := BitVec.ofNat 32 (1024 * row.multiplier.toNat) }

/-- HSEL (R184): the index range first, then the width of N = 1024·multiplier. -/
def execHsel (s : State) : Host.Outcome State Fault Refusal :=
  .next (match tableRow s.cfg (tableIndex s.cfg s.diff) with
    | none => s.raiseError .invalidParameter
    | some row =>
      if 1024 * row.multiplier.toNat ≥ 2 ^ 32 then s.raiseError .resourceExhausted
      else (s.selectRow (tableIndex s.cfg s.diff).toNat row).finish)

/-- The 80-byte S′ of HybridHash step 3 (R185): 76 bytes XORed, the last four copied from the header. -/
def headerXor (sb hdr : Vector Byte 80) : Vector Byte 80 :=
  Vector.ofFn fun t => if t.val < 76 then sb[t] ^^^ hdr[t] else hdr[t]

/-- HXOR (R185). -/
def execHxor (s : State) : Host.Outcome State Fault Refusal :=
  .next { s with sbuf := headerXor s.sbuf s.hdr }.finish

/-- The bytes of a hash value, least significant first (R62). -/
def orderedBytes (o : HashOrder) (x : Vector Byte 32) : List Byte :=
  match o with
  | .le => x.toList
  | .be => x.toList.reverse

/-- `Val(X)` (R62, R186). -/
def hashVal (o : HashOrder) (x : Vector Byte 32) : Nat := leNat (orderedBytes o x)

/-- The 32-byte buffer that stands for a number below 2^256 (R62). -/
def hashOfNat (o : HashOrder) (v : Nat) : Vector Byte 32 :=
  match o with
  | .le => Vector.ofFn fun i => BitVec.ofNat 8 (v / 2 ^ (8 * i.val))
  | .be => Vector.ofFn fun i => BitVec.ofNat 8 (v / 2 ^ (8 * (31 - i.val)))

/-- `Clz256(X)` (R186): 256 for zero, otherwise 255 − floor(log2(Val(X))). -/
def clz256 (o : HashOrder) (x : Vector Byte 32) : Nat :=
  if hashVal o x = 0 then 256 else 255 - Nat.log2 (hashVal o x)

/-- `MaskOf(X)` (R7, R187): the count as K holds it, and the mask. -/
def maskOf (c : Config) (x : Vector Byte 32) : BitVec 9 × Vector Byte 32 :=
  match c.maskExceptions.lookup x with
  | some (k, m) => (BitVec.ofNat 9 k.val, m)
  | none => (BitVec.ofNat 9 (clz256 c.hashOrder x), hashOfNat c.hashOrder (2 ^ (256 - clz256 c.hashOrder x) - 1))

/-- K <- k ; MASK <- M for (k, M) = MaskOf(H): what HMASK and HCOMB share (R188, R189). -/
def State.setMask (s : State) : State := { s with k := (maskOf s.cfg s.h).1, mask := (maskOf s.cfg s.h).2 }

/-- H XOR (S2 AND M), byte by byte (R189). -/
def combine (h s2 m : Vector Byte 32) : Vector Byte 32 := Vector.ofFn fun t => h[t] ^^^ (s2[t] &&& m[t])

/-- HMASK (R188). -/
def execHmask (s : State) : Host.Outcome State Fault Refusal := .next s.setMask.finish

/-- HCOMB (R189): the mask is computed anew from H, whatever K and MASK hold. -/
def execHcomb (s : State) : Host.Outcome State Fault Refusal :=
  .next { s.setMask with out := combine s.h s.s2 (maskOf s.cfg s.h).2 }.finish

end Sys2Proof.Machine
end

