-- ==== Sys2Proof/Machine/Salsa.lean ====
section
/-! DEFINITION. The Salsa20/8 core (R120 to R125) and the SALSA command (R127). -/

namespace Sys2Proof.Machine

open Sys2Proof

/-- Left rotation by `c` bits, 0 < c < 32 (R10). -/
def rotl32 (a : Word) (c : Nat) : Word := (a <<< c) ||| (a >>> (32 - c))

/-- One add-rotate-XOR step, `x[t] <- x[t] ^ rotl32(x[a] +32 x[b], c)` (R121, R123). -/
def arx (x : Vector Word 16) (t a b : Fin 16) (c : Nat) : Vector Word 16 :=
  x.set t (x[t] ^^^ rotl32 (x[a] + x[b]) c)

/-- The quarter-round update `QR(a, b, c, d)` (R121). -/
def quarterRound (x : Vector Word 16) (a b c d : Fin 16) : Vector Word 16 :=
  arx (arx (arx (arx x b a d 7) c b a 9) d c b 13) a d c 18

/-- `ColumnRound` (R122). -/
def columnRound (x : Vector Word 16) : Vector Word 16 :=
  quarterRound (quarterRound (quarterRound (quarterRound x 0 4 8 12) 5 9 13 1) 10 14 2 6) 15 3 7 11

/-- `RowRound` (R123). -/
def rowRound (x : Vector Word 16) : Vector Word 16 :=
  quarterRound (quarterRound (quarterRound (quarterRound x 0 1 2 3) 5 6 7 4) 10 11 8 9) 15 12 13 14

/-- `DoubleRound` (R124). -/
def doubleRound (x : Vector Word 16) : Vector Word 16 := rowRound (columnRound x)

/-- The eight rounds: four double-rounds (R124, R125). -/
def eightRounds (x : Vector Word 16) : Vector Word 16 := doubleRound (doubleRound (doubleRound (doubleRound x)))

/-- Word `i` of the datapath is decoded from bytes 4i to 4i + 3 (R21). -/
def decodeWords (b : List Byte) : Vector Word 16 := Vector.ofFn fun i => le32dec (b.drop (4 * i.val))

/-- One evaluation of the core on a 64-byte block: the decoded words stay in w, and x ends as the rounds' result plus w
(R125). -/
def salsaEval (b : List Byte) : Datapath where
  x := Vector.zipWith (· + ·) (eightRounds (decodeWords b)) (decodeWords b)
  w := decodeWords b

/-- The 64 bytes that x encodes, output bytes 4i to 4i + 3 from x[i] (R125). -/
def Datapath.output (d : Datapath) : List Byte := d.x.toList.flatMap le32enc

/-- `Salsa208` (R125). -/
def salsa208 (b : List Byte) : List Byte := (salsaEval b).output

/-- SALSA (R127): BUF[0..63] <- Salsa208(BUF[0..63]). -/
def execSalsa (s : State) : Host.Outcome State Fault Refusal :=
  .next (((s.storeBuf 0 (salsaEval (s.loadBuf 64)).output).setDatapath (salsaEval (s.loadBuf 64))).finish)

end Sys2Proof.Machine
end

