-- ==== Sys2Proof/Machine/BlockMix.lean ====
section
/-! DEFINITION. BlockMix (R142 to R144), its parameter check (R146) and the BMIX command (R147). -/

namespace Sys2Proof.Machine

open Sys2Proof

/-- The sub-block B⟨i⟩ = B[64i .. 64i + 63] (R9, R142). -/
def subBlock (b : List Byte) (i : Nat) : List Byte := (b.drop (64 * i)).take 64

/-- The chain of R143: one evaluation of the core for each sub-block, on the running value X XOR the sub-block. -/
def mixChain (x : List Byte) : List (List Byte) → List Datapath
  | [] => []
  | b :: bs => salsaEval (blkxor x b) :: mixChain (salsaEval (blkxor x b)).output bs

/-- All 2r evaluations of BlockMix(B, r), in order: X starts as the last sub-block of B (R143). -/
def blockMixChain (b : List Byte) (r : Nat) : List Datapath :=
  mixChain (subBlock b (2 * r - 1)) ((List.range (2 * r)).map (subBlock b))

/-- The scratch Y of a chain: Y⟨i⟩ is the output of evaluation i (R143). -/
def scratchY (chain : List Datapath) : List (List Byte) := chain.map Datapath.output

/-- The de-interleave of R143 and R144: the even-indexed sub-blocks, then the odd-indexed ones. -/
def deinterleave (y : List (List Byte)) (r : Nat) : List Byte :=
  (List.range r).flatMap (fun t => y.getD (2 * t) []) ++ (List.range r).flatMap (fun t => y.getD (2 * t + 1) [])

/-- `BlockMix(B, r)` for r ≥ 1 (R143). -/
def blockMix (b : List Byte) (r : Nat) : List Byte := deinterleave (scratchY (blockMixChain b r)) r

/-- `RCheck(r)` (R146), on naturals; the first test that fires decides. -/
def rCheck (c : Config) (r : Nat) : Except ErrorCode Unit :=
  if r ≥ 2 ^ 30 then .error .invalidParameter
  else if r = 0 then .error .invalidParameter
  else if 256 * r > c.sizeMax then .error .resourceExhausted
  else if r > c.rMax then .error .resourceExhausted
  else .ok ()

/-- The datapath keeps the words of the last evaluation of a chain (R20). -/
def State.latchChain (s : State) (chain : List Datapath) : State := s.setDatapath (chain.getLast?.getD s.dp)

/-- What BMIX writes: the de-interleaved block to BUF[0 .. 128r−1] (R147), Y to XY[0 .. 128r−1] (R79), and the datapath words
of the last evaluation. -/
def State.writeBlockMix (s : State) (chain : List Datapath) (r : Nat) : State :=
  ((s.storeBuf 0 (deinterleave (scratchY chain) r)).storeXy 0 (scratchY chain).flatten).latchChain chain

/-- BMIX (R147). -/
def execBmix (s : State) : Host.Outcome State Fault Refusal :=
  .next (match rCheck s.cfg s.r.toNat with
    | .error e => s.raiseError e
    | .ok () => (s.writeBlockMix (blockMixChain (s.loadBuf (128 * s.r.toNat)) s.r.toNat) s.r.toNat).finish)

end Sys2Proof.Machine
end

