-- ==== Sys2Proof/Machine/Romix.lean ====
section
/-! DEFINITION. The parameter checks (R155 to R158), ROMix over the table memory V (R159 to R164), and the ROMIX and PCHK
commands (R163, R165). -/

namespace Sys2Proof.Machine

open Sys2Proof

/-- `IsPow2(N)` (R155), by the binary representation. -/
def isPow2 (n : Nat) : Bool := n != 0 && (n &&& (n - 1)) == 0

/-- `ParamCheck(N, r, p)` (R157), in unbounded naturals (R11); the first test that fires decides (R158). -/
def paramCheck (c : Config) (n r p : Nat) : Except ErrorCode Unit :=
  if r * p ≥ 2 ^ 30 then .error .invalidParameter
  else if n = 0 ∨ isPow2 n = false then .error .invalidParameter
  else if r = 0 ∨ p = 0 then .error .invalidParameter
  else if 128 * r * p > c.sizeMax ∨ 256 * r > c.sizeMax ∨ 128 * r * n > c.sizeMax then .error .resourceExhausted
  else if r > c.rMax ∨ 128 * r * n > c.vBytes then .error .resourceExhausted
  else .ok ()

/-- `IOFF(r)` (R7, R159). -/
def ioff (c : Config) (r : Nat) : Nat := (c.ioffExceptions.lookup r).getD (128 * r - c.ioffFromEnd)

/-- `Integerify(X, r)` (R159). -/
def integerify (c : Config) (x : List Byte) (r : Nat) : Nat := le64dec (x.drop (ioff c r))

/-- `Vaddr(i) = i·128·r` (R77). -/
def vaddr (r i : Nat) : Nat := i * 128 * r

/-- What ROMix works on: the running block X, the table memory V, and the evaluations of the last BlockMix. -/
structure Mixing where
  x : List Byte
  v : Memory
  chain : List Datapath
  deriving DecidableEq, Repr

/-- X <- BlockMix(b, r), keeping the evaluations (R161). -/
def Mixing.mix (m : Mixing) (b : List Byte) (r : Nat) : Mixing :=
  { m with chain := blockMixChain b r, x := deinterleave (scratchY (blockMixChain b r)) r }

/-- Iteration `i` of phase 1 (R161): MemWrite(Vaddr(i), 128·r, X), then X <- BlockMix(X, r). -/
def fillStep (r : Nat) (m : Mixing) (i : Nat) : Mixing :=
  { m with v := Memory.store m.v (vaddr r i) m.x }.mix m.x r

/-- One iteration of phase 2 (R161): j <- Integerify(X, r) mod N, then X <- BlockMix(X XOR MemRead(Vaddr(j), 128·r), r). -/
def mixBackStep (c : Config) (fresh : Nat → Byte) (n r : Nat) (m : Mixing) : Mixing :=
  m.mix (blkxor m.x (Memory.load fresh m.v (vaddr r (integerify c m.x r % n)) (128 * r))) r

/-- Phase 1: N writes, to entries 0, 1, ..., N − 1 in that order (R78, R161). -/
def fill (r n : Nat) (m : Mixing) : Mixing := (List.range n).foldl (fillStep r) m

/-- Phase 2, `k` of its iterations (R78, R161). -/
def mixBack (c : Config) (fresh : Nat → Byte) (n r : Nat) (k : Nat) (m : Mixing) : Mixing :=
  (List.range k).foldl (fun m _ => mixBackStep c fresh n r m) m

/-- `ROMix(B, N, r)` on the table memory V (R161). -/
def romix (c : Config) (fresh : Nat → Byte) (v : Memory) (b : List Byte) (n r : Nat) : Mixing :=
  mixBack c fresh n r n (fill r n ⟨b, v, []⟩)

/-- What ROMIX writes: the final X to BUF[0 .. 128r−1], the table to V, X and from 128r up the scratch Y of the last BlockMix to
XY (R79, R163), and the datapath words of the last evaluation. -/
def State.writeRomix (s : State) (m : Mixing) : State :=
  (((s.storeBuf 0 m.x).setV m.v).storeXy 0 (m.x ++ (scratchY m.chain).flatten)).latchChain m.chain

/-- ROMIX (R163): the checks with p = 1, one lane. -/
def execRomix (s : State) : Host.Outcome State Fault Refusal :=
  .next (match paramCheck s.cfg s.n.toNat s.r.toNat 1 with
    | .error e => s.raiseError e
    | .ok () =>
      (s.writeRomix (romix s.cfg (s.fresh .v) s.v (s.loadBuf (128 * s.r.toNat)) s.n.toNat s.r.toNat)).finish)

/-- PCHK (R165): the verdict of ParamCheck on N, R and P, and nothing else. -/
def execPchk (s : State) : Host.Outcome State Fault Refusal :=
  .next (match paramCheck s.cfg s.n.toNat s.r.toNat s.p.toNat with
    | .error e => s.raiseError e
    | .ok () => s.finish)

end Sys2Proof.Machine
end

