-- ==== Sys2Proof/Machine/Dispatch.lean ====
section
/-! DEFINITION. The completion step of each command (R92, R93): one arm per command. -/

namespace Sys2Proof.Machine

open Sys2Proof

def exec (i : Instr) (s : State) : Host.Outcome State Fault Refusal :=
  match i with
  | .salsa => Sys2Proof.Machine.execSalsa s
  | .bmix => Sys2Proof.Machine.execBmix s
  | .romix => Sys2Proof.Machine.execRomix s
  | .pchk => Sys2Proof.Machine.execPchk s
  | .hsel => Sys2Proof.Machine.execHsel s
  | .hxor => Sys2Proof.Machine.execHxor s
  | .hmask => Sys2Proof.Machine.execHmask s
  | .hcomb => Sys2Proof.Machine.execHcomb s
  | .wipe => Sys2Proof.Machine.execWipe s

end Sys2Proof.Machine
end

