-- ==== Sys2Proof/Machine/Sequencer.lean ====
section
/-! DEFINITION. The completion step (R92), whose turn it is (R71, R275), and how a command word is placed for the next step. -/

namespace Sys2Proof.Machine

open Sys2Proof

/-- The completion step (R92): the latched word is decoded, and runs or ends as IllegalCommand (R94, R95, R224). -/
def completion (s : State) : Host.Outcome State Fault Refusal :=
  match decode s.curw with
  | .ok i => exec i s
  | .error _ => .next s.illegalCommand

/-- Who moves next. -/
inductive Turn where
  | sequencer
  | host (e : HostEvent) (rest : List HostEvent)
  | idle
  deriving DecidableEq, Repr

/-- While BUSY = 1 the host's next event is performed only if it completes at once (R71) and the free delay says that it comes
before the completion step (R275, log entry 3); otherwise the sequencer moves. While BUSY = 0 the host moves, or nobody does. -/
def State.turn (s : State) : Turn :=
  if s.status.busy then
    match s.pending with
    | [] => .sequencer
    | e :: rest => if atOnce s.cfg e && decide (0 < s.delay) then .host e rest else .sequencer
  else
    match s.pending with
    | [] => .idle
    | e :: rest => .host e rest

/-- The state in which `w` has just been accepted (R91) and its completion step comes next. -/
def State.withCommand (s : State) (w : Word) : State :=
  { s with status := ⟨true, false, none, opField w⟩, curw := w, delay := 0 }

end Sys2Proof.Machine
end

