-- ==== Sys2Proof/Machine/Step.lean ====
section
/-! DEFINITION. One step of the machine: the completion step, one event of the host, or waiting. -/

namespace Sys2Proof.Machine

open Sys2Proof

/-- One step. An idle block with nothing to come waits (R260). -/
def step (s : State) : Host.Outcome State Fault Refusal :=
  match s.turn with
  | .sequencer => completion s
  | .host e rest => .next (s.hostStep e rest)
  | .idle => .next s

/-- The block fetches nothing (R23): a command word comes to run by being accepted and latched (R76, R91). This is the state in
which the word of `nbits` bits `w` has been accepted and the very next step is its completion step. -/
def State.withFetchWord (s : State) (nbits w : Nat) : State := s.withCommand (BitVec.ofNat 32 (w % 2 ^ nbits))

end Sys2Proof.Machine
end

