-- ==== Sys2Proof/Machine/Script.lean ====
section
/-! DEFINITION. Host scripts: the expansion of each line into the host's bus actions (R98, R99) and the triples that stand for
them (R101). -/

namespace Sys2Proof.Machine

open Sys2Proof

/-- The `WR` actions of a `WRB` line: one per four bytes, in increasing offset, each value being `le32dec` of its four bytes
(R99). -/
def writeWords (base off : Nat) : List Byte → List HostEvent
  | b0 :: b1 :: b2 :: b3 :: rest =>
    .write 32 (base + off) (le32dec [b0, b1, b2, b3]) :: writeWords base (off + 4) rest
  | _ => []

/-- The bus actions of one script line on a block at `base` (R98, R99). -/
def expandLine (base : Nat) : HostLine → List HostEvent
  | .wr off v => [.write 32 (base + off.value) v]
  | .rd off _ => [.read 32 (base + off.value)]
  | .cmd i => [.write 32 (base + RegName.offset .cmd) (encode i)]
  | .poll => [.poll]
  | .run i => [.write 32 (base + RegName.offset .cmd) (encode i), .poll]
  | .ack => [.write 32 (base + RegName.offset .status) 0x00000006]
  | .wrb name n bytes => writeWords base (name.offset + n) bytes
  | .rdb name n count _ => (List.range (count / 4)).map fun q => .read 32 (base + (name.offset + n + 4 * q))

/-- A whole script, line by line in order (R98). -/
def expandScript (base : Nat) (lines : List HostLine) : List HostEvent := lines.flatMap (expandLine base)

/-- The triple (kind, offset, data) of R101: `none` as data is kind R. -/
structure Triple where
  off : Nat
  data : Option Word
  deriving DecidableEq, Repr

/-- The triple of one bus action; a POLL stands as its final read of STATUS (R101). -/
def eventTriple (base : Nat) : HostEvent → Option Triple
  | .read _ addr => some ⟨addr - base, none⟩
  | .write _ addr data => some ⟨addr - base, some data⟩
  | .poll => some ⟨RegName.offset .status, none⟩
  | .reset => none

/-- The values a host expects from the reads of a line, where it states them (R98, R99): each value `RD` names, each four bytes
`RDB` names. -/
def expectedWords : HostLine → List Word
  | .rd _ (some v) => [v]
  | .rdb _ _ count (some bytes) => (List.range (count / 4)).map fun q => le32dec (bytes.drop (4 * q))
  | _ => []

end Sys2Proof.Machine
end

