-- ==== Sys2Proof/Safety.lean ====
section
/-! DEFINITION. What every state of the block meets: the invariant that statements over all states take as a premise, and that
every step keeps. -/

namespace Sys2Proof.Machine

open Sys2Proof

/-- Every entry of the memory lies below `n`: no byte exists at `n` or above (R41, R43, R77). -/
abbrev Memory.below (m : Memory) (n : Nat) : Prop := ∀ c ∈ m, c.1 < n

/-- The invariant of the block. -/
structure State.Inv (s : State) : Prop where
  /-- The parameters meet the constraints of R7. -/
  cfg_wf : s.cfg.wf = true
  /-- At most one of BUSY, DONE, ERROR is 1 (R26): a command in flight has neither result yet. -/
  busy_clean : s.status.busy = true → s.status.done = false ∧ s.status.error = none
  /-- At most one of BUSY, DONE, ERROR is 1 (R26). -/
  done_clean : s.status.done = true → s.status.error = none
  /-- No command raises OutputTooLarge (R222). -/
  no_output_too_large : s.status.error ≠ some .outputTooLarge
  /-- OP is the low byte of the word latched last (R26, R91). -/
  op_latched : s.status.op = opField s.curw
  /-- K is a count from 0 to 256 (R35). -/
  k_range : s.k.toNat ≤ 256
  /-- The memories keep their canonical form. -/
  buf_wf : Memory.wf s.buf
  xy_wf : Memory.wf s.xy
  v_wf : Memory.wf s.v
  /-- No byte outside BUF is ever written (R41). -/
  buf_below : Memory.below s.buf (128 * s.cfg.rMax)
  /-- No byte outside XY is ever written (R43). -/
  xy_below : Memory.below s.xy (256 * s.cfg.rMax)
  /-- No access to V is out of range (R77). -/
  v_below : Memory.below s.v s.cfg.vBytes

/-- The host's next event is performed by the next step: either no command is in flight, or the event completes at once and
comes before the completion step (R71). -/
def State.hostMoves (s : State) (e : HostEvent) : Prop :=
  s.status.busy = false ∨ (atOnce s.cfg e = true ∧ 0 < s.delay)

/-- The completion step of the command in flight is the next step: nothing of the host comes before it (R71, R92). -/
def State.sequencerMoves (s : State) : Prop :=
  s.status.busy = true ∧
    (s.pending = [] ∨ s.delay = 0 ∨ ∃ e rest, s.pending = e :: rest ∧ atOnce s.cfg e = false)

/-- `ROMix(B, N, r)` with the table as a local array (R44, R162): entry i is BlockMix applied i times to B, phase 1 ends with
BlockMix applied N times, and each of the N iterations of phase 2 reads the entry that Integerify selects. -/
def localRomix (c : Config) (b : List Byte) (n r : Nat) : List Byte :=
  (fun x => blockMix (blkxor x ((fun y => blockMix y r)^[integerify c x r % n] b)) r)^[n] ((fun y => blockMix y r)^[n] b)

/-- Two states that may differ only in what no offset exposes and no result depends on: XY, V, x and w (R20, R43, R44). -/
def State.SameButScratch (s t : State) : Prop := t = { s with xy := t.xy, v := t.v, dp := t.dp }

end Sys2Proof.Machine
end

