-- ==== Sys2Proof/Certificates/Slice0/Obligations.lean ====
section
/-! DEFINITION. The statements for the provers, each from the rules its docstring names. Where one speaks of the model's own
fields, these are the model's and not the spec's: cfg (log entry 1), resets (log entry 2), delay and accepted (log entry 3),
pending and responses (log entry 4). -/

open Sys2Proof Sys2Proof.Machine

/-! ## Encoding -/

/-- R93 to R95: the nine match words, written out, decode to their commands, and three neighbours are refused by name. -/
def Obligations.TableWordsDecodeAsSpelled : Prop :=
  decode 0x00000001 = .ok .salsa ∧ decode 0x00000002 = .ok .bmix ∧ decode 0x00000003 = .ok .romix ∧
  decode 0x00000004 = .ok .pchk ∧ decode 0x00000010 = .ok .hsel ∧ decode 0x00000011 = .ok .hxor ∧
  decode 0x00000012 = .ok .hmask ∧ decode 0x00000013 = .ok .hcomb ∧ decode 0x0000001F = .ok .wipe ∧
  decode 0x00000000 = .error .unlistedOp ∧ decode 0x00000105 = .error .reservedBits ∧
  decode 0x00010001 = .error .reservedBits

/-- R93 (the masks are all ones), R94, R95: a word decodes to a command exactly when it is that command's match word, which
decode gives back from encode. -/
def Obligations.WordDecodesExactlyWhenEncoded : Prop := ∀ (w : Word) (i : Instr), decode w = .ok i ↔ w = encode i

/-- R94, R95: a word with any of the bits 31:8 set, or whose op is none of the nine listed, ends its completion step with
IllegalCommand and nothing else changes; 247 op values are unlisted, 0x00 among them. -/
def Obligations.IllegalWordsEndWithIllegalCommand : Prop :=
  (∀ s : State, s.sequencerMoves →
    (s.curw.extractLsb' 8 24 ≠ 0 ∨
      s.curw.extractLsb' 0 8 ∉ ([0x01, 0x02, 0x03, 0x04, 0x10, 0x11, 0x12, 0x13, 0x1F] : List Byte)) →
    step s = .next { s with status := { s.status with error := some .illegalCommand, busy := false } }) ∧
  (((List.range 256).map (BitVec.ofNat 8)).filter
    (fun op => decide (op ∉ ([0x01, 0x02, 0x03, 0x04, 0x10, 0x11, 0x12, 0x13, 0x1F] : List Byte)))).length = 247

/-! ## Byte order and word arithmetic -/

/-- R12: the little-endian primitives and their two round trips, which R12 derives from them. -/
def Obligations.LittleEndianPrimitivesRoundTrip : Prop :=
  (∀ b0 b1 b2 b3 : Byte,
    (le32dec [b0, b1, b2, b3]).toNat = b0.toNat + 2 ^ 8 * b1.toNat + 2 ^ 16 * b2.toNat + 2 ^ 24 * b3.toNat) ∧
  (∀ (w : Word) (i : Nat), i < 4 → (le32enc w)[i]? = some (w.extractLsb' (8 * i) 8)) ∧
  (∀ b0 b1 b2 b3 b4 b5 b6 b7 : Byte,
    le64dec [b0, b1, b2, b3, b4, b5, b6, b7] =
      b0.toNat + b1.toNat * 2 ^ 8 + b2.toNat * 2 ^ 16 + b3.toNat * 2 ^ 24 + b4.toNat * 2 ^ 32 + b5.toNat * 2 ^ 40 +
        b6.toNat * 2 ^ 48 + b7.toNat * 2 ^ 56) ∧
  (∀ w : Word, le32dec (le32enc w) = w) ∧
  (∀ b0 b1 b2 b3 : Byte, le32enc (le32dec [b0, b1, b2, b3]) = [b0, b1, b2, b3])

/-- R10: the left rotation is the arithmetic expression of the rule, for every amount from 1 to 31. -/
def Obligations.RotationIsTheFormulaOfR10 : Prop :=
  ∀ (a : Word) (c : Nat), 0 < c → c < 32 →
    (rotl32 a c).toNat = (a.toNat * 2 ^ c) % 2 ^ 32 + a.toNat / 2 ^ (32 - c)

/-! ## One step of the machine -/

/-- R92: when the sequencer moves and the latched word decodes to a command, the step is that command's. -/
def Obligations.StepRunsTheLatchedCommand : Prop :=
  ∀ (s : State) (i : Instr), s.sequencerMoves → decode s.curw = .ok i → step s = exec i s

/-- R92, R239: no step faults or is refused. -/
def Obligations.EveryStepAnswersNext : Prop := ∀ s : State, ∃ t : State, step s = .next t

/-- R91: a write to CMD while BUSY = 0 is dropped while ERROR = 1, with no change of state, and otherwise latches the word,
sets BUSY and OP and clears DONE. What the host still has to do and the answer `done` are the model's (log entry 4); the delay
and the counter of accepted commands are the model's too (log entry 3). -/
def Obligations.CommandWriteIsIssuedOrDropped : Prop :=
  ∀ (s : State) (w : Word) (rest : List HostEvent), s.status.busy = false →
    s.pending = .write 32 s.cfg.base w :: rest →
    (s.status.error ≠ none →
      step s = .next { s with pending := rest, responses := .done :: s.responses }) ∧
    (s.status.error = none → ∃ t : State,
      step s = .next t ∧
      t.status = { s.status with done := false, op := w.extractLsb' 0 8, busy := true } ∧ t.curw = w ∧
      t = { s with
        status := t.status, curw := w, pending := rest, responses := .done :: s.responses,
        delay := t.delay, accepted := s.accepted + 1 })

/-- R71, stalled accesses: while BUSY = 1 an aligned 32-bit access to a mapped offset other than STATUS and IE is not performed;
the step is the completion step. -/
def Obligations.StalledAccessWaitsForCompletion : Prop :=
  ∀ (s : State) (off : Nat) (e : HostEvent) (rest : List HostEvent),
    s.status.busy = true → s.pending = e :: rest →
    (e = .read 32 (s.cfg.base + off) ∨ ∃ v, e = .write 32 (s.cfg.base + off) v) →
    off % 4 = 0 → off < 0x1000 + 128 * s.cfg.rMax → off ≠ 0x004 → off ≠ 0x008 →
    step s = completion s ∧ ∃ t : State, step s = .next t ∧ t.pending = e :: rest ∧ t.status.busy = false

/-- R71, accesses that complete at once: while BUSY = 1 an access to STATUS or IE is performed in the step, as long as the
completion step does not come first (log entry 3), and the command stays in flight. A write to IE changes EN and nothing else
of the block; what a write to STATUS makes of STATUS is StatusWriteClearsDoneAndError. -/
def Obligations.StatusAndIeAccessesDoNotStall : Prop :=
  ∀ (s : State) (off : Nat) (v : Word) (rest : List HostEvent),
    s.status.busy = true → 0 < s.delay → (off = 0x004 ∨ off = 0x008) →
    (s.pending = .read 32 (s.cfg.base + off) :: rest →
      step s = .next { s with
        pending := rest, delay := s.delay - 1,
        responses := .value (s.regWord (if off = 0x004 then .status else .ie)) :: s.responses }) ∧
    (s.pending = .write 32 (s.cfg.base + off) v :: rest →
      (off = 0x008 → step s = .next { s with
        ieEn := v.getLsbD 0, pending := rest, delay := s.delay - 1, responses := .done :: s.responses }) ∧
      (off = 0x004 → ∃ t : State, step s = .next t ∧ t.status.busy = true ∧ t.status.op = s.status.op ∧
        t = { s with
          status := t.status, pending := rest, delay := s.delay - 1, responses := .done :: s.responses }))

/-- R275: every accepted command reaches its completion step (or `rst` ends it) after finitely many steps, whatever the host
does meanwhile. The bound is the model's own free number (log entry 3). -/
def Obligations.AcceptedCommandCompletes : Prop :=
  ∀ s : State, s.status.busy = true →
    ∃ (j : Nat) (t : State), j ≤ s.delay + 1 ∧ Host.Core.run Sys2Proof.core j s = .next t ∧ t.status.busy = false

/-! ## STATUS, the interrupt, reset -/

/-- R26, R220: where each field stands in the word a read of STATUS returns, and the numbers of the codes. -/
def Obligations.StatusWordHoldsTheFieldsOfR26 : Prop :=
  ∀ st : Status,
    st.word.getLsbD 0 = st.busy ∧ st.word.getLsbD 1 = st.done ∧ st.word.getLsbD 2 = st.error.isSome ∧
    st.word.extractLsb' 3 5 = 0 ∧ st.word.extractLsb' 12 4 = 0 ∧ st.word.extractLsb' 24 8 = 0 ∧
    st.word.extractLsb' 16 8 = st.op ∧
    st.word.extractLsb' 8 4 =
      (match st.error with
        | none => 0
        | some .invalidParameter => 1
        | some .outputTooLarge => 2
        | some .resourceExhausted => 3
        | some .illegalCommand => 4)

/-- R27, R231: a host write to STATUS clears DONE where bit 1 is set and ERROR with ERRCODE where bit 2 is set, ignores every
other bit, never changes BUSY or OP, and is allowed while BUSY = 1, where it then changes nothing
of STATUS (R27 derives this last point from R26). The delay and its role are the model's (log entry 3): a write that is pending
while BUSY = 1 and the delay is 0 comes after the completion step, and is then the case BUSY = 0. -/
def Obligations.StatusWriteClearsDoneAndError : Prop :=
  ∀ (s : State) (v : Word) (rest : List HostEvent),
    s.pending = .write 32 (s.cfg.base + 0x004) v :: rest → (s.status.busy = false ∨ 0 < s.delay) →
    ∃ t : State, step s = .next t ∧
      t.status =
        { busy := s.status.busy, op := s.status.op,
          done := if v.getLsbD 1 then false else s.status.done,
          error := if v.getLsbD 2 then none else s.status.error } ∧
      t = { s with
        status := t.status, pending := rest, responses := .done :: s.responses,
        delay := if s.status.busy then s.delay - 1 else s.delay } ∧
      (s.status.busy = true → s.status.done = false → s.status.error = none → t.status = s.status)

/-- R227: the interrupt output as a function of the bits a host reads, and that it is up after every completion exactly when
IE.EN is set. -/
def Obligations.InterruptFollowsStatusAndEnable : Prop :=
  (∀ s : State, s.irq =
    ((s.regWord .ie).getLsbD 0 && ((s.regWord .status).getLsbD 1 || (s.regWord .status).getLsbD 2))) ∧
  (∀ (i : Instr) (s t : State), exec i s = .next t → t.irq = s.ieEn)

/-- R46, R261: what the machine holds right after reset, for the values the spec gives. -/
def Obligations.ResetLeavesTheValuesOfR46 : Prop :=
  ∀ (c : Config) (j : Nat) (s : State), s = State.resetOf c j →
    s.status.word = 0 ∧ s.ieEn = false ∧ s.n = 0 ∧ s.r = 0 ∧ s.p = 0 ∧ s.mult = 0 ∧ s.diff = 0 ∧ s.tblidx = 0 ∧ s.k = 0 ∧
    s.curw = 0 ∧ (∀ i : Fin 80, s.hdr[i] = 0 ∧ s.sbuf[i] = 0) ∧
    (∀ i : Fin 32, s.h[i] = 0 ∧ s.s2[i] = 0 ∧ s.mask[i] = 0 ∧ s.out[i] = 0) ∧ s.irq = false ∧ State.reset.status.word = 0

/-- R260, R263: `rst` puts the block into its reset state, a command in flight included. The rest is the model's own: when a
pending `rst` is performed while BUSY = 1 (the delay, log entry 3: with the delay at 0 it comes after the completion step, and is
then the case BUSY = 0), the counter of accepted commands, which stays (log entry 3), the counter of resets, which draws the
unspecified contents anew (log entry 2), the parameters, which stay (log entry 1), and the lists of what the host still has to do
and was told, which stay (log entry 4). -/
def Obligations.ResetAbandonsTheCommandInFlight : Prop :=
  ∀ (s : State) (rest : List HostEvent), s.pending = .reset :: rest → (s.status.busy = false ∨ 0 < s.delay) →
    step s = .next { State.resetOf s.cfg (s.resets + 1) with
      accepted := s.accepted, pending := rest, responses := s.responses }

/-! ## Host accesses -/

/-- R225: an access of a wrong width, at a misaligned offset or at an unmapped offset gets BusError, changes no state of the
block, sets no error and does not raise the interrupt, whatever BUSY is (R71). The delay and its role are the model's (log entry 3): an
access that is pending while BUSY = 1 and the delay is 0 comes after the completion step, and is then the case BUSY = 0. -/
def Obligations.BusErrorChangesNothing : Prop :=
  ∀ (s : State) (width off : Nat) (v : Word) (rest : List HostEvent),
    (width ≠ 32 ∨ off % 4 ≠ 0 ∨ 0x1000 + 128 * s.cfg.rMax ≤ off) → (s.status.busy = false ∨ 0 < s.delay) →
    (s.pending = .read width (s.cfg.base + off) :: rest ∨ s.pending = .write width (s.cfg.base + off) v :: rest) →
    ∃ t : State, step s = .next t ∧ t.irq = s.irq ∧
      t = { s with
        pending := rest, responses := .busError :: s.responses,
        delay := if s.status.busy then s.delay - 1 else s.delay }

/-- R66: reading any address twice changes nothing and gives the same answer twice. -/
def Obligations.HostReadsAreIdempotent : Prop :=
  ∀ (s : State) (width addr : Nat) (rest : List HostEvent), s.status.busy = false →
    s.pending = .read width addr :: .read width addr :: rest →
    ∃ a : BusResponse,
      Host.Core.run Sys2Proof.core 2 s = .next { s with pending := rest, responses := a :: a :: s.responses }

/-- R28 to R31, R33: N, R, P and DIFF hold any 32-bit value the host writes, IE holds bit 0 of it; a read returns it, and
nothing else changes. -/
def Obligations.WrittenRegistersReadBack : Prop :=
  ∀ (s : State) (off : Nat) (v : Word) (rest : List HostEvent), s.status.busy = false →
    s.pending = .write 32 (s.cfg.base + off) v :: .read 32 (s.cfg.base + off) :: rest →
    (off = 0x00C → Host.Core.run Sys2Proof.core 2 s =
      .next { s with n := v, pending := rest, responses := .value v :: .done :: s.responses }) ∧
    (off = 0x010 → Host.Core.run Sys2Proof.core 2 s =
      .next { s with r := v, pending := rest, responses := .value v :: .done :: s.responses }) ∧
    (off = 0x014 → Host.Core.run Sys2Proof.core 2 s =
      .next { s with p := v, pending := rest, responses := .value v :: .done :: s.responses }) ∧
    (off = 0x01C → Host.Core.run Sys2Proof.core 2 s =
      .next { s with diff := v, pending := rest, responses := .value v :: .done :: s.responses }) ∧
    (off = 0x008 → Host.Core.run Sys2Proof.core 2 s =
      .next { s with
        ieEn := v.getLsbD 0, pending := rest,
        responses := .value (BitVec.ofNat 32 (v.toNat % 2)) :: .done :: s.responses })

/-- R36, R40: a host write to MULT, TBLIDX, K, MASK, OUT or a reserved offset is ignored and is no error; a read of a reserved
offset returns 0. -/
def Obligations.ReadOnlyAndReservedIgnoreWrites : Prop :=
  ∀ (s : State) (off : Nat) (v : Word) (rest : List HostEvent), s.status.busy = false → off % 4 = 0 →
    ((off = 0x018 ∨ off = 0x020 ∨ (0x024 ≤ off ∧ off < 0x040) ∨ (0x120 ≤ off ∧ off < 0x1000)) →
      s.pending = .write 32 (s.cfg.base + off) v :: rest →
      step s = .next { s with pending := rest, responses := .done :: s.responses }) ∧
    (((0x028 ≤ off ∧ off < 0x040) ∨ (0x160 ≤ off ∧ off < 0x1000)) →
      s.pending = .read 32 (s.cfg.base + off) :: rest →
      step s = .next { s with pending := rest, responses := .value 0 :: s.responses })

/-- R42, R61: a host write of a word to HDR, S, H or S2 replaces exactly its four bytes, little-endian. -/
def Obligations.SmallWindowWriteReplacesFourBytes : Prop :=
  ∀ (s : State) (off q : Nat) (v : Word) (rest : List HostEvent), s.status.busy = false →
    s.pending = .write 32 (s.cfg.base + off) v :: rest →
    (off = 0x040 + 4 * q → q < 20 → ∃ t : State,
      step s = .next t ∧ t = { s with hdr := t.hdr, pending := rest, responses := .done :: s.responses } ∧
      ∀ i : Fin 80, t.hdr[i] =
        if 4 * q ≤ i.val ∧ i.val < 4 * q + 4 then v.extractLsb' (8 * (i.val - 4 * q)) 8 else s.hdr[i]) ∧
    (off = 0x090 + 4 * q → q < 20 → ∃ t : State,
      step s = .next t ∧ t = { s with sbuf := t.sbuf, pending := rest, responses := .done :: s.responses } ∧
      ∀ i : Fin 80, t.sbuf[i] =
        if 4 * q ≤ i.val ∧ i.val < 4 * q + 4 then v.extractLsb' (8 * (i.val - 4 * q)) 8 else s.sbuf[i]) ∧
    (off = 0x0E0 + 4 * q → q < 8 → ∃ t : State,
      step s = .next t ∧ t = { s with h := t.h, pending := rest, responses := .done :: s.responses } ∧
      ∀ i : Fin 32, t.h[i] =
        if 4 * q ≤ i.val ∧ i.val < 4 * q + 4 then v.extractLsb' (8 * (i.val - 4 * q)) 8 else s.h[i]) ∧
    (off = 0x100 + 4 * q → q < 8 → ∃ t : State,
      step s = .next t ∧ t = { s with s2 := t.s2, pending := rest, responses := .done :: s.responses } ∧
      ∀ i : Fin 32, t.s2[i] =
        if 4 * q ≤ i.val ∧ i.val < 4 * q + 4 then v.extractLsb' (8 * (i.val - 4 * q)) 8 else s.s2[i])

/-- R41, R42, R61: a host write of a word to BUF replaces exactly its four bytes, little-endian. -/
def Obligations.BufWriteReplacesFourBytes : Prop :=
  ∀ (s : State) (q : Nat) (v : Word) (rest : List HostEvent), s.status.busy = false → 4 * q < 128 * s.cfg.rMax →
    s.pending = .write 32 (s.cfg.base + (0x1000 + 4 * q)) v :: rest →
    ∃ t : State,
      step s = .next t ∧ t = { s with buf := t.buf, pending := rest, responses := .done :: s.responses } ∧
      ∀ a : Nat, t.bufByte a =
        if 4 * q ≤ a ∧ a < 4 * q + 4 then v.extractLsb' (8 * (a - 4 * q)) 8 else s.bufByte a

/-- R42, R61: a host read of a window word returns its four bytes, little-endian, for all seven windows. -/
def Obligations.WindowReadReturnsFourBytes : Prop :=
  ∀ (s : State) (off q : Nat) (rest : List HostEvent) (answer : List Byte → State), s.status.busy = false →
    s.pending = .read 32 (s.cfg.base + off) :: rest →
    (answer = fun bytes =>
      { s with pending := rest, responses := .value (le32dec ((bytes.drop (4 * q)).take 4)) :: s.responses }) →
    (off = 0x040 + 4 * q → q < 20 → step s = .next (answer s.hdr.toList)) ∧
    (off = 0x090 + 4 * q → q < 20 → step s = .next (answer s.sbuf.toList)) ∧
    (off = 0x0E0 + 4 * q → q < 8 → step s = .next (answer s.h.toList)) ∧
    (off = 0x100 + 4 * q → q < 8 → step s = .next (answer s.s2.toList)) ∧
    (off = 0x120 + 4 * q → q < 8 → step s = .next (answer s.mask.toList)) ∧
    (off = 0x140 + 4 * q → q < 8 → step s = .next (answer s.out.toList)) ∧
    (off = 0x1000 + 4 * q → 4 * q < 128 * s.cfg.rMax →
      step s = .next (answer ((List.range (128 * s.cfg.rMax)).map s.bufByte)))

/-! ## The Salsa20/8 core -/

/-- R123, R124: one DoubleRound is the 32 steps the rule writes out, in order. -/
def Obligations.DoubleRoundIsThe32Steps : Prop :=
  ∀ x : Vector Word 16, doubleRound x =
    List.foldl (fun (y : Vector Word 16) (e : Fin 16 × Fin 16 × Fin 16 × Nat) =>
        y.set e.1 (y[e.1] ^^^ rotl32 (y[e.2.1] + y[e.2.2.1]) e.2.2.2)) x
      [(4, 0, 12, 7), (8, 4, 0, 9), (12, 8, 4, 13), (0, 12, 8, 18),
       (9, 5, 1, 7), (13, 9, 5, 9), (1, 13, 9, 13), (5, 1, 13, 18),
       (14, 10, 6, 7), (2, 14, 10, 9), (6, 2, 14, 13), (10, 6, 2, 18),
       (3, 15, 11, 7), (7, 3, 15, 9), (11, 7, 3, 13), (15, 11, 7, 18),
       (1, 0, 3, 7), (2, 1, 0, 9), (3, 2, 1, 13), (0, 3, 2, 18),
       (6, 5, 4, 7), (7, 6, 5, 9), (4, 7, 6, 13), (5, 4, 7, 18),
       (11, 10, 9, 7), (8, 11, 10, 9), (9, 8, 11, 13), (10, 9, 8, 18),
       (12, 15, 14, 7), (13, 12, 15, 9), (14, 13, 12, 13), (15, 14, 13, 18)]

/-- R125: the output block is 64 bytes and its word i is the rounds' word i plus the input's word i. -/
def Obligations.CoreAddsTheInputWordsBack : Prop :=
  ∀ b : List Byte, (salsa208 b).length = 64 ∧
    ∀ i : Fin 16, le32dec ((salsa208 b).drop (4 * i.val)) =
      (doubleRound (doubleRound (doubleRound (doubleRound (decodeWords b)))))[i] + le32dec (b.drop (4 * i.val))

/-- R126 (a), (c): the all-zero block maps to itself, and flipping bit 31 of all sixteen input words does not change the output;
so the block of sixteen words 0x8000_0000 maps to the all-zero block too. R126 derives these. -/
def Obligations.FlippingEveryTopBitKeepsTheOutput : Prop :=
  (∀ b b' : List Byte, b.length = 64 → b'.length = 64 →
    (∀ i : Nat, i < 64 → b'.getD i 0 = if i % 4 = 3 then b.getD i 0 ^^^ 0x80 else b.getD i 0) →
    salsa208 b' = salsa208 b) ∧
  salsa208 (List.replicate 64 0) = List.replicate 64 0 ∧
  salsa208 ((List.replicate 16 ([0x00, 0x00, 0x00, 0x80] : List Byte)).flatten) = List.replicate 64 0

/-- R126 (c): the eight rounds without the feed-forward are a bijection on sixteen words; R126 derives it. -/
def Obligations.RoundsAreABijection : Prop := Function.Bijective eightRounds

/-- R127: SALSA replaces BUF[0..63] by Salsa208 of it in every state, whatever N, R and P are, and changes nothing else that an
offset shows but STATUS. That w is left holding the decoded input words and x the words of the result is the model's own (log
entry 10), taken from R20 and R125. -/
def Obligations.SalsaReplacesTheFirst64Bytes : Prop :=
  ∀ s : State, ∃ t : State, exec .salsa s = .next t ∧
    (∀ a : Nat, t.bufByte a =
      if a < 64 then (salsa208 ((List.range 64).map s.bufByte)).getD a 0 else s.bufByte a) ∧
    t.dp.w = decodeWords ((List.range 64).map s.bufByte) ∧ t.dp.output = (List.range 64).map t.bufByte ∧
    t = { s with buf := t.buf, dp := t.dp, status := { s.status with done := true, busy := false } }

/-! ## BlockMix -/

/-- R141: blkxor is XOR byte by byte. R143: the scratch Y of BlockMix is the chain of the core over the input's sub-blocks, started from the last one. -/
def Obligations.BlockMixChainsTheCore : Prop :=
  (∀ a b : List Byte, a.length = b.length →
    (blkxor a b).length = a.length ∧ ∀ t : Nat, t < a.length → (blkxor a b).getD t 0 = a.getD t 0 ^^^ b.getD t 0) ∧
  (∀ (b : List Byte) (r : Nat) (y : Nat → List Byte), 1 ≤ r → b.length = 128 * r →
    (y = fun i => (scratchY (blockMixChain b r)).getD i []) →
    y 0 = salsa208 (blkxor ((b.drop (64 * (2 * r - 1))).take 64) (b.take 64)) ∧
    (∀ i : Nat, i + 1 < 2 * r → y (i + 1) = salsa208 (blkxor (y i) ((b.drop (64 * (i + 1))).take 64))))

/-- R144: the de-interleave by index, in both of the rule's forms, the identity for r = 1, and the last sub-block
(R144 derives this last point). -/
def Obligations.DeinterleavePlacesEvenThenOdd : Prop :=
  ∀ (b : List Byte) (r : Nat) (y : Nat → List Byte), 1 ≤ r → b.length = 128 * r →
    (y = fun i => (scratchY (blockMixChain b r)).getD i []) →
    (∀ i : Nat, i < 2 * r → i % 2 = 0 → subBlock (blockMix b r) (i / 2) = y i) ∧
    (∀ i : Nat, i < 2 * r → i % 2 = 1 → subBlock (blockMix b r) (r + (i - 1) / 2) = y i) ∧
    (∀ t : Nat, t < r → subBlock (blockMix b r) t = y (2 * t) ∧ subBlock (blockMix b r) (r + t) = y (2 * t + 1)) ∧
    (r = 1 → blockMix b r = y 0 ++ y 1) ∧
    subBlock (blockMix b r) (2 * r - 1) = y (2 * r - 1)

/-- R145 (a), (b): BlockMix of the all-zero block is the all-zero block, and it keeps the length; R145 derives both. -/
def Obligations.BlockMixKeepsLengthAndZero : Prop :=
  ∀ r : Nat, 1 ≤ r →
    (∀ b : List Byte, b.length = 128 * r → (blockMix b r).length = 128 * r) ∧
    blockMix (List.replicate (128 * r) 0) r = List.replicate (128 * r) 0

/-- R146: the tests of RCheck in their order, and that it is ParamCheck(1, r, 1) whenever V_BYTES ≥ 128·R_MAX, which R146
derives from R157. -/
def Obligations.RCheckTestsInOrder : Prop :=
  ∀ (c : Config) (r : Nat),
    (r ≥ 2 ^ 30 → rCheck c r = .error .invalidParameter) ∧
    (r < 2 ^ 30 → r = 0 → rCheck c r = .error .invalidParameter) ∧
    (r < 2 ^ 30 → r ≠ 0 → 256 * r > c.sizeMax → rCheck c r = .error .resourceExhausted) ∧
    (r < 2 ^ 30 → r ≠ 0 → 256 * r ≤ c.sizeMax → r > c.rMax → rCheck c r = .error .resourceExhausted) ∧
    (r < 2 ^ 30 → r ≠ 0 → 256 * r ≤ c.sizeMax → r ≤ c.rMax → rCheck c r = .ok ()) ∧
    (c.vBytes ≥ 128 * c.rMax → rCheck c r = paramCheck c 1 r 1)

/-- R147: on a legal r BMIX replaces BUF[0 .. 128r−1] by BlockMix of it and changes nothing else that an offset shows but STATUS;
N and P are not read. That XY[0 .. 128r−1] is left holding Y and x the last value of the chain is the model's own (log entry 10),
taken from the layout of R79 and from R20: U16 leaves open whether the scratch is zeroed at the end. -/
def Obligations.BmixReplacesTheBlock : Prop :=
  ∀ (s : State) (r : Nat) (b : List Byte), r = s.r.toNat → 1 ≤ r → r < 2 ^ 30 → r ≤ s.cfg.rMax →
    256 * r ≤ s.cfg.sizeMax → b = (List.range (128 * r)).map s.bufByte →
    ∃ t : State, exec .bmix s = .next t ∧
      (∀ a : Nat, t.bufByte a = if a < 128 * r then (blockMix b r).getD a 0 else s.bufByte a) ∧
      (∀ a : Nat, t.xyByte a = if a < 128 * r then (scratchY (blockMixChain b r)).flatten.getD a 0 else s.xyByte a) ∧
      t.dp.output = subBlock (blockMix b r) (2 * r - 1) ∧
      t = { s with buf := t.buf, xy := t.xy, dp := t.dp, status := { s.status with done := true, busy := false } }

/-- R147, R230: on every other r BMIX ends with the error of R146 and changes nothing but the error fields and BUSY. -/
def Obligations.BmixErrorsChangeOnlyStatus : Prop :=
  ∀ (s : State) (r : Nat), r = s.r.toNat →
    (r ≥ 2 ^ 30 ∨ r = 0 →
      exec .bmix s = .next { s with status := { s.status with error := some .invalidParameter, busy := false } }) ∧
    (r < 2 ^ 30 → r ≠ 0 → (256 * r > s.cfg.sizeMax ∨ r > s.cfg.rMax) →
      exec .bmix s = .next { s with status := { s.status with error := some .resourceExhausted, busy := false } })

/-! ## Parameter checks and ROMix -/

/-- R155: IsPow2, by both of the rule's definitions, at 0 and 1, and in a 32-bit register. -/
def Obligations.IsPow2MeansAPowerOfTwo : Prop :=
  ∀ n : Nat, (isPow2 n = true ↔ ∃ e : Nat, n = 2 ^ e) ∧ (isPow2 n = true ↔ n ≠ 0 ∧ (n &&& (n - 1)) = 0) ∧
    isPow2 1 = true ∧ isPow2 0 = false ∧ (n < 2 ^ 32 → (isPow2 n = true ↔ ∃ e : Nat, e ≤ 31 ∧ n = 2 ^ e))

/-- R157, R158: the tests of ParamCheck in their order, and what its verdict ok says of a 32-bit N, which R157 derives from the
tests. -/
def Obligations.ParamCheckTestsInOrder : Prop :=
  ∀ (c : Config) (n r p : Nat),
    (r * p ≥ 2 ^ 30 → paramCheck c n r p = .error .invalidParameter) ∧
    (r * p < 2 ^ 30 → (¬ ∃ e : Nat, n = 2 ^ e) → paramCheck c n r p = .error .invalidParameter) ∧
    (r * p < 2 ^ 30 → (∃ e : Nat, n = 2 ^ e) → (r = 0 ∨ p = 0) → paramCheck c n r p = .error .invalidParameter) ∧
    (r * p < 2 ^ 30 → (∃ e : Nat, n = 2 ^ e) → r ≠ 0 → p ≠ 0 →
      (128 * r * p > c.sizeMax ∨ 256 * r > c.sizeMax ∨ 128 * r * n > c.sizeMax) →
      paramCheck c n r p = .error .resourceExhausted) ∧
    (r * p < 2 ^ 30 → (∃ e : Nat, n = 2 ^ e) → r ≠ 0 → p ≠ 0 →
      128 * r * p ≤ c.sizeMax → 256 * r ≤ c.sizeMax → 128 * r * n ≤ c.sizeMax → (r > c.rMax ∨ 128 * r * n > c.vBytes) →
      paramCheck c n r p = .error .resourceExhausted) ∧
    (r * p < 2 ^ 30 → (∃ e : Nat, n = 2 ^ e) → r ≠ 0 → p ≠ 0 →
      128 * r * p ≤ c.sizeMax → 256 * r ≤ c.sizeMax → 128 * r * n ≤ c.sizeMax → r ≤ c.rMax → 128 * r * n ≤ c.vBytes →
      paramCheck c n r p = .ok ()) ∧
    (n < 2 ^ 32 → paramCheck c n r p = .ok () →
      (∃ e : Nat, e ≤ 31 ∧ n = 2 ^ e) ∧ 1 ≤ r ∧ r ≤ c.rMax ∧ 1 ≤ p ∧ r * p < 2 ^ 30 ∧ 128 * r * n ≤ c.vBytes)

/-- R165: PCHK completes on every legal triple, ends with InvalidParameter or else ResourceExhausted on every other, and changes
nothing but STATUS; a triple that passes PCHK passes the checks of ROMIX. -/
def Obligations.PchkGivesTheVerdictOfR157 : Prop :=
  ∀ (s : State) (n r p : Nat), n = s.n.toNat → r = s.r.toNat → p = s.p.toNat →
    ((∃ e : Nat, n = 2 ^ e) → 1 ≤ r → 1 ≤ p → r * p < 2 ^ 30 → 128 * r * p ≤ s.cfg.sizeMax → 256 * r ≤ s.cfg.sizeMax →
      128 * r * n ≤ s.cfg.sizeMax → r ≤ s.cfg.rMax → 128 * r * n ≤ s.cfg.vBytes →
      exec .pchk s = .next { s with status := { s.status with done := true, busy := false } }) ∧
    (r * p ≥ 2 ^ 30 ∨ (¬ ∃ e : Nat, n = 2 ^ e) ∨ r = 0 ∨ p = 0 →
      exec .pchk s = .next { s with status := { s.status with error := some .invalidParameter, busy := false } }) ∧
    (r * p < 2 ^ 30 → (∃ e : Nat, n = 2 ^ e) → r ≠ 0 → p ≠ 0 →
      (128 * r * p > s.cfg.sizeMax ∨ 256 * r > s.cfg.sizeMax ∨ 128 * r * n > s.cfg.sizeMax ∨ r > s.cfg.rMax ∨
        128 * r * n > s.cfg.vBytes) →
      exec .pchk s = .next { s with status := { s.status with error := some .resourceExhausted, busy := false } }) ∧
    (paramCheck s.cfg n r p = .ok () → paramCheck s.cfg n r 1 = .ok ())

/-- R161 to R163: on legal parameters ROMIX, which works through MemWrite and MemRead on V, replaces BUF[0 .. 128r−1] by ROMix
computed with a local table, and changes nothing else that an offset shows but STATUS. That V is left holding the table (and is
untouched from 128·r·N up), XY[0 .. 128r−1] the result, and XY from 256r up what it held is the model's own (log entry 10), taken
from R161 and the layout of R79: R44 and U16 leave open whether the two are zeroed at the end. -/
def Obligations.RomixComputesRomix : Prop :=
  ∀ (s : State) (n r : Nat) (b : List Byte), n = s.n.toNat → r = s.r.toNat → (∃ e : Nat, n = 2 ^ e) → 1 ≤ r →
    r < 2 ^ 30 → 256 * r ≤ s.cfg.sizeMax → 128 * r * n ≤ s.cfg.sizeMax → r ≤ s.cfg.rMax → 128 * r * n ≤ s.cfg.vBytes →
    b = (List.range (128 * r)).map s.bufByte →
    ∃ t : State, exec .romix s = .next t ∧
      (∀ a : Nat, t.bufByte a = if a < 128 * r then (localRomix s.cfg b n r).getD a 0 else s.bufByte a) ∧
      (∀ i a : Nat, i < n → a < 128 * r → t.vByte (i * 128 * r + a) = ((fun y => blockMix y r)^[i] b).getD a 0) ∧
      (∀ a : Nat, 128 * r * n ≤ a → t.vByte a = s.vByte a) ∧
      (∀ a : Nat, a < 128 * r → t.xyByte a = t.bufByte a) ∧
      (∀ a : Nat, 256 * r ≤ a → t.xyByte a = s.xyByte a) ∧
      t = { s with
        buf := t.buf, v := t.v, xy := t.xy, dp := t.dp, status := { s.status with done := true, busy := false } }

/-- R163, R230: on every other pair ROMIX ends with the error of R157 for p = 1, InvalidParameter first, and changes nothing but
the error fields and BUSY. -/
def Obligations.RomixErrorsChangeOnlyStatus : Prop :=
  ∀ (s : State) (n r : Nat), n = s.n.toNat → r = s.r.toNat →
    (r ≥ 2 ^ 30 ∨ (¬ ∃ e : Nat, n = 2 ^ e) ∨ r = 0 →
      exec .romix s = .next { s with status := { s.status with error := some .invalidParameter, busy := false } }) ∧
    (r < 2 ^ 30 → (∃ e : Nat, n = 2 ^ e) → r ≠ 0 →
      (128 * r > s.cfg.sizeMax ∨ 256 * r > s.cfg.sizeMax ∨ 128 * r * n > s.cfg.sizeMax ∨ r > s.cfg.rMax ∨
        128 * r * n > s.cfg.vBytes) →
      exec .romix s = .next { s with status := { s.status with error := some .resourceExhausted, busy := false } })

/-- R159, R160: the index of phase 2 is below N, is the 64-bit little-endian number at the 8 bytes from 128r − 64 modulo N, and
only the first four of the eight bytes influence it (R160 derives this), where IOFF(r) = 128r − 64. That IOFF is held as a
distance and a list of exceptions, and what it is by them, is the model's own way of holding the parameter (log entry 7). -/
def Obligations.IndexComesFromTheLastSubBlock : Prop :=
  (∀ (c : Config) (r o : Nat), (c.ioffExceptions.lookup r = some o → ioff c r = o) ∧
    (c.ioffExceptions.lookup r = none → c.ioffFromEnd = 64 → ioff c r = 128 * r - 64)) ∧
  (∀ (c : Config) (x : List Byte) (n r e : Nat), ioff c r = 128 * r - 64 → 1 ≤ r → x.length = 128 * r → n = 2 ^ e → e ≤ 31 →
    integerify c x r % n < n ∧
    integerify c x r = le64dec (subBlock x (2 * r - 1)) ∧
    integerify c x r % n = (le32dec (subBlock x (2 * r - 1))).toNat % n)

/-! ## HybridHash -/

/-- R181, R182: where SizeExp is the decided one, it is the top byte; the index never exceeds TABLE_LEN − 1, and it is in range
exactly when 2·SizeExp ≤ TABLE_LEN − 1, which R182 derives. That SizeExp is held as a list of exceptions, and is an exception's
value where it has one, is the model's own way of holding the parameter (log entry 7). -/
def Obligations.TableIndexRangeOfR182 : Prop :=
  ∀ (c : Config) (d : Word),
    (c.sizeExceptions.lookup d = none → sizeExp c d = d.toNat / 2 ^ 24) ∧
    (∀ k : Nat, c.sizeExceptions.lookup d = some k → sizeExp c d = k) ∧
    tableIndex c d ≤ (c.tableLen : Int) - 1 ∧
    ((0 ≤ tableIndex c d ∧ tableIndex c d < c.tableLen) ↔ 2 * (sizeExp c d : Int) ≤ (c.tableLen : Int) - 1)

/-- R184: HSEL copies the selected row to MULT, R and P, writes N = 1024·multiplier and the index, and changes nothing else but
STATUS. An index that does not fit TBLIDX leaves a free value there (log entry 8). -/
def Obligations.HselSelectsTheRow : Prop :=
  ∀ (s : State) (idx : Nat) (row : TableRow),
    (idx : Int) = (s.cfg.tableLen : Int) - 1 - 2 * (sizeExp s.cfg s.diff : Int) → s.cfg.table[idx]? = some row →
    row.multiplier.toNat < 2 ^ 22 →
    ∃ t : State, exec .hsel s = .next t ∧
      (idx < 2 ^ 32 → t.tblidx.toNat = idx) ∧ t.n.toNat = 1024 * row.multiplier.toNat ∧
      t = { s with
        n := t.n, r := row.r, p := row.p, mult := row.multiplier, tblidx := t.tblidx,
        status := { s.status with done := true, busy := false } }

/-- R184, R221 (d), R223 (c): an index out of range ends with InvalidParameter, and then a multiplier of 2^22 or more with
ResourceExhausted; nothing but the error fields and BUSY changes. -/
def Obligations.HselErrorsChangeOnlyStatus : Prop :=
  ∀ s : State,
    (2 * (sizeExp s.cfg s.diff : Int) > (s.cfg.tableLen : Int) - 1 →
      exec .hsel s = .next { s with status := { s.status with error := some .invalidParameter, busy := false } }) ∧
    (∀ (idx : Nat) (row : TableRow), (idx : Int) = (s.cfg.tableLen : Int) - 1 - 2 * (sizeExp s.cfg s.diff : Int) →
      s.cfg.table[idx]? = some row → row.multiplier.toNat ≥ 2 ^ 22 →
      exec .hsel s = .next { s with status := { s.status with error := some .resourceExhausted, busy := false } })

/-- R185: HXOR XORs 76 bytes of S with the header, copies the last four header bytes, and changes nothing else but STATUS; a
second HXOR restores the first 76 bytes of S and leaves the last four header bytes. -/
def Obligations.HxorMixesTheHeader : Prop :=
  ∀ s : State, ∃ t : State, exec .hxor s = .next t ∧
    (∀ i : Fin 80, t.sbuf[i] = if i.val < 76 then s.sbuf[i] ^^^ s.hdr[i] else s.hdr[i]) ∧
    t = { s with sbuf := t.sbuf, status := { s.status with done := true, busy := false } } ∧
    ∃ u : State, exec .hxor t = .next u ∧ ∀ i : Fin 80, u.sbuf[i] = if i.val < 76 then s.sbuf[i] else s.hdr[i]

/-- R62, R186: Val for both byte orders. R187: where MaskOf is the decided one, the count is the number of leading zero bits of
Val(H) and Val of the mask is 2^(256 − k) − 1, for both byte orders. That MaskOf is held as a list of exceptions, and is an
exception's count and mask where it has one, is the model's own way of holding the parameter (log entry 7). -/
def Obligations.DefaultMaskHasLowOnes : Prop :=
  (∀ x : Vector Byte 32,
    hashVal .le x = ∑ i : Fin 32, x[i].toNat * 2 ^ (8 * i.val) ∧
    hashVal .be x = ∑ i : Fin 32, x[i].toNat * 2 ^ (8 * (31 - i.val))) ∧
  (∀ (c : Config) (x m : Vector Byte 32) (k : Fin 257), c.maskExceptions.lookup x = some (k, m) →
    (maskOf c x).1.toNat = k.val ∧ (maskOf c x).2 = m) ∧
  (∀ (c : Config) (x : Vector Byte 32) (k : Nat), c.maskExceptions.lookup x = none → k = (maskOf c x).1.toNat →
    k = clz256 c.hashOrder x ∧ k ≤ 256 ∧ (hashVal c.hashOrder x = 0 → k = 256) ∧
    (hashVal c.hashOrder x ≠ 0 → k < 256 ∧ 2 ^ (255 - k) ≤ hashVal c.hashOrder x ∧
      hashVal c.hashOrder x < 2 ^ (256 - k)) ∧
    hashVal c.hashOrder (maskOf c x).2 = 2 ^ (256 - k) - 1)

/-- R188: HMASK writes the count and the mask of H, for every MaskOf, and changes nothing else but STATUS. -/
def Obligations.HmaskWritesCountAndMask : Prop :=
  ∀ s : State, exec .hmask s = .next { s with
    k := (maskOf s.cfg s.h).1, mask := (maskOf s.cfg s.h).2, status := { s.status with done := true, busy := false } }

/-- R189: HCOMB writes OUT[t] = H[t] XOR (S2[t] AND M[t]) for the mask M that MaskOf(H) returns, whatever K and MASK held, for
every MaskOf, and changes nothing else but STATUS. -/
def Obligations.HcombCombinesUnderTheMask : Prop :=
  ∀ s : State, ∃ t : State, exec .hcomb s = .next t ∧
    (∀ i : Fin 32, t.out[i] = s.h[i] ^^^ (s.s2[i] &&& (maskOf s.cfg s.h).2[i])) ∧
    t = { s with
      k := (maskOf s.cfg s.h).1, mask := (maskOf s.cfg s.h).2, out := t.out,
      status := { s.status with done := true, busy := false } }

/-- R190: mask conformance where MaskOf(H) is that of R187 (U3: MaskOf has no exception at H), for both byte orders; R190 derives it from R187 and R189. The top k
bits of Val(OUT) are those of Val(H), which are zero; the low ones are Val(H) XOR Val(S2); Clz256(OUT) is at least k, and k
exactly when bit 255 − k of Val(S2) is 0. -/
def Obligations.OutputConformsToTheMask : Prop :=
  ∀ (s : State) (k : Nat), s.cfg.maskExceptions.lookup s.h = none → k = clz256 s.cfg.hashOrder s.h →
    ∃ t : State, exec .hcomb s = .next t ∧
      (∀ j : Nat, 256 - k ≤ j → j < 256 →
        (hashVal s.cfg.hashOrder t.out).testBit j = (hashVal s.cfg.hashOrder s.h).testBit j ∧
          (hashVal s.cfg.hashOrder s.h).testBit j = false) ∧
      (∀ j : Nat, j < 256 - k →
        (hashVal s.cfg.hashOrder t.out).testBit j =
          ((hashVal s.cfg.hashOrder s.h).testBit j ^^ (hashVal s.cfg.hashOrder s.s2).testBit j)) ∧
      k ≤ clz256 s.cfg.hashOrder t.out ∧
      (k < 256 → (clz256 s.cfg.hashOrder t.out = k ↔ (hashVal s.cfg.hashOrder s.s2).testBit (255 - k) = false))

/-! ## WIPE -/

/-- R210: WIPE zeroes all of BUF, the six small buffers, K and the hidden memories and words; the parameters, IE and everything
else but STATUS stay. -/
def Obligations.WipeZeroesEveryDataBuffer : Prop :=
  ∀ s : State, ∃ t : State, exec .wipe s = .next t ∧
    (∀ a : Nat, t.bufByte a = if a < 128 * s.cfg.rMax then 0 else s.bufByte a) ∧
    (∀ a : Nat, t.xyByte a = if a < 256 * s.cfg.rMax then 0 else s.xyByte a) ∧
    (∀ a : Nat, t.vByte a = if a < s.cfg.vBytes then 0 else s.vByte a) ∧
    (∀ i : Fin 80, t.hdr[i] = 0 ∧ t.sbuf[i] = 0) ∧
    (∀ i : Fin 32, t.h[i] = 0 ∧ t.s2[i] = 0 ∧ t.mask[i] = 0 ∧ t.out[i] = 0) ∧
    (∀ i : Fin 16, t.dp.x[i] = 0 ∧ t.dp.w[i] = 0) ∧
    t = { s with
      buf := t.buf, xy := t.xy, v := t.v, hdr := t.hdr, sbuf := t.sbuf, h := t.h, s2 := t.s2, mask := t.mask, out := t.out,
      k := 0, dp := t.dp, status := { s.status with done := true, busy := false } }

/-! ## Rules about the whole machine -/

/-- R97, which derives its table from the command rules, and R180: what each command may change, on success and on error. Of
BUF these are the first 64 bytes (R127), the first 128·r (R147, R163) or all its 128·R_MAX bytes (R210). R97 lists the hidden XY
and V without bounds: that XY keeps its bytes from 128·r up after BMIX and from 256·r up after ROMIX, and V from 128·r·N up, is
the model's own (log entry 10), taken from the layout of R79 and from R163; R44 and U16 leave open whether they are zeroed. -/
def Obligations.CommandsTouchOnlyWhatR97Lists : Prop :=
  ∀ (i : Instr) (s t : State), exec i s = .next t →
    match i with
    | .salsa => t = { s with buf := t.buf, dp := t.dp, status := t.status } ∧
        ∀ a : Nat, 64 ≤ a → t.bufByte a = s.bufByte a
    | .bmix => t = { s with buf := t.buf, xy := t.xy, dp := t.dp, status := t.status } ∧
        (∀ a : Nat, 128 * s.r.toNat ≤ a → t.bufByte a = s.bufByte a) ∧
        (∀ a : Nat, 128 * s.r.toNat ≤ a → t.xyByte a = s.xyByte a)
    | .romix => t = { s with buf := t.buf, xy := t.xy, v := t.v, dp := t.dp, status := t.status } ∧
        (∀ a : Nat, 128 * s.r.toNat ≤ a → t.bufByte a = s.bufByte a) ∧
        (∀ a : Nat, 256 * s.r.toNat ≤ a → t.xyByte a = s.xyByte a) ∧
        (∀ a : Nat, 128 * s.r.toNat * s.n.toNat ≤ a → t.vByte a = s.vByte a)
    | .pchk => t = { s with status := t.status }
    | .hsel => t = { s with n := t.n, r := t.r, p := t.p, mult := t.mult, tblidx := t.tblidx, status := t.status }
    | .hxor => t = { s with sbuf := t.sbuf, status := t.status }
    | .hmask => t = { s with k := t.k, mask := t.mask, status := t.status }
    | .hcomb => t = { s with k := t.k, mask := t.mask, out := t.out, status := t.status }
    | .wipe => t = { s with
        buf := t.buf, xy := t.xy, v := t.v, hdr := t.hdr, sbuf := t.sbuf, h := t.h, s2 := t.s2, mask := t.mask, out := t.out,
        k := t.k, dp := t.dp, status := t.status } ∧
        (∀ a : Nat, 128 * s.cfg.rMax ≤ a → t.bufByte a = s.bufByte a) ∧
        (∀ a : Nat, 256 * s.cfg.rMax ≤ a → t.xyByte a = s.xyByte a) ∧
        (∀ a : Nat, s.cfg.vBytes ≤ a → t.vByte a = s.vByte a)

/-- R92, R26: a completion step clears BUSY, keeps OP, and sets exactly one of DONE and ERROR when neither was set. -/
def Obligations.CompletionSetsExactlyOneResult : Prop :=
  ∀ (i : Instr) (s : State), s.status.done = false → s.status.error = none →
    ∃ t : State, exec i s = .next t ∧ t.status.busy = false ∧ t.status.op = s.status.op ∧
      ((t.status.done = true ∧ t.status.error = none) ∨ (t.status.done = false ∧ ∃ c : ErrorCode, t.status.error = some c))

/-- R230, R226: a command that ends with an error changes ERROR, ERRCODE and BUSY and nothing else. -/
def Obligations.ErrorsArePrecise : Prop :=
  ∀ (i : Instr) (s t : State) (c : ErrorCode), s.status.error = none → exec i s = .next t → t.status.error = some c →
    t = { s with status := { s.status with error := some c, busy := false } }

/-- R232, R231, R27: an error stays, code included, until the host writes 1 to bit 2 of STATUS or `rst` comes. -/
def Obligations.ErrorIsStickyUntilAcknowledged : Prop :=
  ∀ (s t : State) (c : ErrorCode), s.Inv → s.status.error = some c → step s = .next t → t.status.error ≠ some c →
    ∃ rest : List HostEvent, s.pending = .reset :: rest ∨
      ∃ v : Word, v.getLsbD 2 = true ∧ s.pending = .write 32 (s.cfg.base + 0x004) v :: rest

/-- R20, R43, R44: what XY, V, x and w hold influences no step: two states that differ only there go to two states that differ
only there. -/
def Obligations.ScratchContentsInfluenceNothing : Prop :=
  ∀ s s' : State, s.SameButScratch s' →
    ∃ t t' : State, step s = .next t ∧ step s' = .next t' ∧ t.SameButScratch t'

/-- R46: the reset state meets the invariant, for every configuration that meets R7 and for the reference one. -/
def Obligations.ResetMeetsTheInvariant : Prop :=
  State.reset.Inv ∧ ∀ (c : Config) (j : Nat), c.wf = true → (State.resetOf c j).Inv

/-- R26, R35, R41, R43, R77, R222: every step keeps the invariant: at most one of BUSY, DONE and ERROR, OP the low byte of the
latched word, no OutputTooLarge, K at most 256, the memories canonical and never written outside BUF, XY and V; and the
parameters of R7 stay. -/
def Obligations.StepKeepsTheInvariant : Prop := ∀ s t : State, s.Inv → step s = .next t → t.Inv ∧ t.cfg = s.cfg

/-! ## Host scripts -/

/-- R99: the WRB line on BUF stores its bytes at its offset, in as many accesses as it has words, and changes nothing else. -/
def Obligations.WrbLineStoresItsBytes : Prop :=
  ∀ (s : State) (off : Nat) (bytes : List Byte) (rest : List HostEvent), s.status.busy = false → off % 4 = 0 →
    bytes.length % 4 = 0 → off + bytes.length ≤ 128 * s.cfg.rMax →
    s.pending = expandLine s.cfg.base (.wrb .buf off bytes) ++ rest →
    ∃ t : State, Host.Core.run Sys2Proof.core (bytes.length / 4) s = .next t ∧
      (∀ a : Nat, t.bufByte a = if off ≤ a ∧ a < off + bytes.length then bytes.getD (a - off) 0 else s.bufByte a) ∧
      t = { s with buf := t.buf, pending := rest, responses := t.responses }

/-- R99, R275: the RUN line on an idle block with ERROR = 0 ends, with its command completed and its POLL answered by the STATUS
word of the end, after finitely many steps; the number is the model's own free delay (log entry 3). -/
def Obligations.RunLineEndsWithTheCommandCompleted : Prop :=
  ∀ (s : State) (i : Instr) (rest : List HostEvent), s.status.busy = false → s.status.error = none →
    s.pending = expandLine s.cfg.base (.run i) ++ rest →
    ∃ (j : Nat) (t : State), Host.Core.run Sys2Proof.core j s = .next t ∧ t.pending = rest ∧ t.status.busy = false ∧
      t.status.op = (encode i).extractLsb' 0 8 ∧ (t.status.done = true ∨ t.status.error ≠ none) ∧
      t.responses.head? = some (.value t.status.word)

/-! ## Register reads -/

/-- R25 to R35: what a host read of each of the ten registers returns while BUSY = 0, and that it changes nothing: CMD reads 0,
STATUS the word of StatusWordHoldsTheFieldsOfR26, IE its bit 0, K its nine bits with zeros above, and the others what they
hold. -/
def Obligations.RegisterReadsReturnTheRegisters : Prop :=
  ∀ (s : State) (off : Nat) (rest : List HostEvent) (answer : Word → State), s.status.busy = false →
    s.pending = .read 32 (s.cfg.base + off) :: rest →
    (answer = fun v => { s with pending := rest, responses := .value v :: s.responses }) →
    (off = 0x000 → step s = .next (answer 0)) ∧
    (off = 0x004 → step s = .next (answer s.status.word)) ∧
    (off = 0x008 → step s = .next (answer (if s.ieEn then 1 else 0))) ∧
    (off = 0x00C → step s = .next (answer s.n)) ∧
    (off = 0x010 → step s = .next (answer s.r)) ∧
    (off = 0x014 → step s = .next (answer s.p)) ∧
    (off = 0x018 → step s = .next (answer s.mult)) ∧
    (off = 0x01C → step s = .next (answer s.diff)) ∧
    (off = 0x020 → step s = .next (answer s.tblidx)) ∧
    (off = 0x024 → step s = .next (answer (BitVec.ofNat 32 s.k.toNat)))
end

