-- ==== Sys2Proof/Laws/Memory.lean ====
section
/-! SUPPORT. The byte memories: what a store and a load do at every address, and that a store keeps the canonical form. -/

namespace Sys2Proof.Machine

open Sys2Proof

/-! ## Cells -/

@[simp] theorem Memory.cells_nil (a : Nat) : Memory.cells a [] = [] := rfl

@[simp] theorem Memory.cells_cons (a : Nat) (b : Byte) (bs : List Byte) :
    Memory.cells a (b :: bs) = (a, b) :: Memory.cells (a + 1) bs := by
  simp [Memory.cells, List.zipIdx_cons]

/-- A cell's address lies among the addresses stored to. -/
theorem Memory.cells_addr {a : Nat} {bytes : List Byte} {c : Host.Cell} (h : c ∈ Memory.cells a bytes) :
    a ≤ c.1 ∧ c.1 < a + bytes.length := by
  induction bytes generalizing a with
  | nil => simp at h
  | cons b bs ih =>
    rw [Memory.cells_cons, List.mem_cons] at h
    rcases h with rfl | h
    · simp
    · have := ih h; simp only [List.length_cons]; omega

theorem Memory.cells_pairwise (a : Nat) (bytes : List Byte) :
    (Memory.cells a bytes).Pairwise (fun c d => c.1 < d.1) := by
  induction bytes generalizing a with
  | nil => simp
  | cons b bs ih =>
    rw [Memory.cells_cons, List.pairwise_cons]
    exact ⟨fun d hd => by have := Memory.cells_addr hd; omega, ih _⟩

theorem Memory.lookup_cells (a : Nat) (bytes : List Byte) (x : Nat) :
    List.lookup x (Memory.cells a bytes) = if a ≤ x then bytes[x - a]? else none := by
  induction bytes generalizing a with
  | nil => simp
  | cons b bs ih =>
    rw [Memory.cells_cons, List.lookup_cons, ih]
    by_cases h : x = a
    · simp [h]
    · have : (x == a) = false := by simpa using h
      rw [this]
      by_cases h1 : a ≤ x
      · obtain ⟨k, rfl⟩ : ∃ k, x = a + 1 + k := ⟨x - (a + 1), by omega⟩
        have e1 : a + 1 + k - a = k + 1 := by omega
        have e2 : a + 1 + k - (a + 1) = k := by omega
        simp [h1, e1, e2]
      · rw [if_neg (by omega), if_neg h1]

/-! ## Lookup and filters -/

theorem Memory.lookup_eq (m : Memory) (a : Nat) : Memory.lookup m a = List.lookup a m := by
  cases h : List.lookup a m <;> simp [Memory.lookup, Memory.unlisted, h]

/-- Dropping entries of other addresses does not change what an address holds. -/
theorem Memory.lookup_filter (m : Memory) (p : Host.Cell → Bool) (a : Nat) (h : ∀ c, c.1 = a → p c = true) :
    List.lookup a (m.filter p) = List.lookup a m := by
  induction m with
  | nil => simp
  | cons c m ih =>
    by_cases hc : a = c.1
    · rw [List.filter_cons_of_pos (h c hc.symm), List.lookup_cons, List.lookup_cons, hc]; simp
    · have hb : (a == c.1) = false := by simpa using hc
      by_cases hp : p c = true
      · rw [List.filter_cons_of_pos hp, List.lookup_cons, List.lookup_cons, hb, ih]
      · rw [List.filter_cons_of_neg hp, List.lookup_cons, hb, ih]

/-- An address whose entries are all dropped holds nothing. -/
theorem Memory.lookup_filter_none (m : Memory) (p : Host.Cell → Bool) (a : Nat) (h : ∀ c, c.1 = a → p c = false) :
    List.lookup a (m.filter p) = none := by
  induction m with
  | nil => simp
  | cons c m ih =>
    by_cases hc : a = c.1
    · rw [List.filter_cons_of_neg (by simp [h c hc.symm]), ih]
    · have hb : (a == c.1) = false := by simpa using hc
      by_cases hp : p c = true
      · rw [List.filter_cons_of_pos hp, List.lookup_cons, hb, ih]
      · rw [List.filter_cons_of_neg hp, ih]

theorem Memory.lookup_append (m m' : Memory) (a : Nat) :
    List.lookup a (m ++ m') = (List.lookup a m).or (List.lookup a m') := by
  induction m with
  | nil => simp
  | cons c m ih =>
    rw [List.cons_append, List.lookup_cons, List.lookup_cons, ih]
    split <;> simp

/-! ## Store, load -/

/-- A store replaces exactly the bytes it stores to: what each address holds afterwards. -/
theorem Memory.lookup_store (m : Memory) (a : Nat) (bytes : List Byte) (x : Nat) :
    Memory.lookup (Memory.store m a bytes) x =
      if a ≤ x ∧ x < a + bytes.length then bytes[x - a]? else Memory.lookup m x := by
  simp only [Memory.lookup_eq, Memory.store, Memory.lookup_append, Memory.lookup_cells]
  by_cases h1 : x < a
  · rw [Memory.lookup_filter m _ x (by intro c hc; simp; omega)]
    rw [Memory.lookup_filter_none m (fun c => decide (a + bytes.length ≤ c.1)) x (by intro c hc; simp; omega)]
    rw [if_neg (by omega), if_neg (by omega)]
    simp
  · rw [Memory.lookup_filter_none m (fun c => decide (c.1 < a)) x (by intro c hc; simp; omega)]
    rw [if_pos (by omega)]
    by_cases h2 : x < a + bytes.length
    · rw [Memory.lookup_filter_none m _ x (by intro c hc; simp; omega), if_pos (by omega)]
      simp
    · rw [Memory.lookup_filter m _ x (by intro c hc; simp; omega), if_neg (by omega)]
      rw [List.getElem?_eq_none (by omega)]
      simp

/-- The byte at each address after a store. -/
theorem Memory.byte_store (fresh : Nat → Byte) (m : Memory) (a : Nat) (bytes : List Byte) (x : Nat) :
    Memory.byte fresh (Memory.store m a bytes) x =
      if a ≤ x ∧ x < a + bytes.length then bytes.getD (x - a) 0 else Memory.byte fresh m x := by
  unfold Memory.byte
  rw [Memory.lookup_store]
  by_cases h : a ≤ x ∧ x < a + bytes.length
  · have hlt : x - a < bytes.length := by omega
    rw [if_pos h, if_pos h]
    simp [hlt]
  · rw [if_neg h, if_neg h]

theorem Memory.byte_window (fresh : Nat → Byte) (m : Memory) (a n x : Nat) (h : a ≤ x ∧ x < a + n) :
    Memory.byte fresh (Memory.window m a n) x = Memory.byte fresh m x := by
  simp only [Memory.byte, Memory.lookup_eq, Memory.window]
  rw [Memory.lookup_filter m _ x (by intro c hc; simp; omega)]

/-- A load is the bytes at the addresses, one by one. -/
theorem Memory.load_eq (fresh : Nat → Byte) (m : Memory) (a n : Nat) :
    Memory.load fresh m a n = (List.range n).map fun i => Memory.byte fresh m (a + i) := by
  unfold Memory.load
  refine List.map_congr_left fun i hi => ?_
  exact Memory.byte_window fresh m a n (a + i) (by have := List.mem_range.mp hi; omega)

@[simp] theorem Memory.length_load (fresh : Nat → Byte) (m : Memory) (a n : Nat) :
    (Memory.load fresh m a n).length = n := by
  simp [Memory.load_eq]

/-! ## The canonical form -/

theorem Memory.wf_nil : Memory.wf [] := ⟨List.Pairwise.nil, by simp⟩

/-- A memory is canonical exactly when its addresses strictly rise: no byte equals what an unlisted address reads as. -/
theorem Memory.wf_iff (m : Memory) : Memory.wf m ↔ m.Pairwise (fun c d => c.1 < d.1) := by
  simp [Memory.unlisted]

/-- Every store keeps the canonical form. -/
theorem Memory.wf_store {m : Memory} (h : Memory.wf m) (a : Nat) (bytes : List Byte) :
    Memory.wf (Memory.store m a bytes) := by
  rw [Memory.wf_iff] at h ⊢
  unfold Memory.store
  rw [List.pairwise_append, List.pairwise_append]
  refine ⟨⟨h.filter _, Memory.cells_pairwise a bytes, ?_⟩, h.filter _, ?_⟩
  · intro c hc d hd
    have := Memory.cells_addr hd
    simp only [List.mem_filter, decide_eq_true_eq] at hc
    omega
  · intro c hc d hd
    simp only [List.mem_filter, decide_eq_true_eq] at hd
    rcases List.mem_append.mp hc with hc | hc
    · simp only [List.mem_filter, decide_eq_true_eq] at hc; omega
    · have := Memory.cells_addr hc; omega

/-- Two canonical memories that hold the same at every address are the same list. -/
theorem Memory.ext {m m' : Memory} (h : Memory.wf m) (h' : Memory.wf m')
    (hl : ∀ a, Memory.lookup m a = Memory.lookup m' a) : m = m' := by
  rw [Memory.wf_iff] at h h'
  simp only [Memory.lookup_eq] at hl
  induction m generalizing m' with
  | nil =>
    cases m' with
    | nil => rfl
    | cons d m' => obtain ⟨k, b⟩ := d; have := hl k; simp at this
  | cons c m ih =>
    cases m' with
    | nil => obtain ⟨k, b⟩ := c; have := hl k; simp at this
    | cons d m' =>
      rw [List.pairwise_cons] at h h'
      have none_of_lt : ∀ (l : Memory) (a : Nat), (∀ e ∈ l, a < e.1) → List.lookup a l = none := by
        intro l a hl
        refine List.lookup_eq_none_iff.mpr fun e he => ?_
        have := hl e he
        simp; omega
      have hcd : c.1 = d.1 := by
        rcases Nat.lt_trichotomy c.1 d.1 with hlt | heq | hgt
        · have := hl c.1
          rw [List.lookup_cons, List.lookup_cons] at this
          rw [none_of_lt m' c.1 (fun e he => by have := h'.1 e he; omega)] at this
          have hne : (c.1 == d.1) = false := by simp; omega
          simp [hne] at this
        · exact heq
        · have := hl d.1
          rw [List.lookup_cons, List.lookup_cons] at this
          rw [none_of_lt m d.1 (fun e he => by have := h.1 e he; omega)] at this
          have hne : (d.1 == c.1) = false := by simp; omega
          simp [hne] at this
      have hv : c.2 = d.2 := by
        have := hl c.1
        rw [List.lookup_cons, List.lookup_cons, hcd] at this
        simpa using this
      have hc : c = d := Prod.ext hcd hv
      subst hc
      congr 1
      refine ih h.2 h'.2 fun a => ?_
      by_cases ha : a = c.1
      · subst ha
        rw [none_of_lt m c.1 (fun e he => h.1 e he), none_of_lt m' c.1 (fun e he => h'.1 e he)]
      · have := hl a
        have hne : (a == c.1) = false := by simpa using ha
        rwa [List.lookup_cons, List.lookup_cons, hne] at this

end Sys2Proof.Machine
end

