-- ==== Sys2Proof/Laws/State.lean ====
section
/-! SUPPORT. What each named update of State does to each field, so that no proof unfolds a record update. -/

namespace Sys2Proof.Machine

open Sys2Proof

/-! ## finish -/

@[simp] theorem State.finish_cfg (s : State) : (s.finish).cfg = s.cfg := rfl
@[simp] theorem State.finish_status (s : State) : (s.finish).status = s.status.completed := rfl
@[simp] theorem State.finish_ieEn (s : State) : (s.finish).ieEn = s.ieEn := rfl
@[simp] theorem State.finish_n (s : State) : (s.finish).n = s.n := rfl
@[simp] theorem State.finish_r (s : State) : (s.finish).r = s.r := rfl
@[simp] theorem State.finish_p (s : State) : (s.finish).p = s.p := rfl
@[simp] theorem State.finish_mult (s : State) : (s.finish).mult = s.mult := rfl
@[simp] theorem State.finish_diff (s : State) : (s.finish).diff = s.diff := rfl
@[simp] theorem State.finish_tblidx (s : State) : (s.finish).tblidx = s.tblidx := rfl
@[simp] theorem State.finish_k (s : State) : (s.finish).k = s.k := rfl
@[simp] theorem State.finish_curw (s : State) : (s.finish).curw = s.curw := rfl
@[simp] theorem State.finish_hdr (s : State) : (s.finish).hdr = s.hdr := rfl
@[simp] theorem State.finish_sbuf (s : State) : (s.finish).sbuf = s.sbuf := rfl
@[simp] theorem State.finish_h (s : State) : (s.finish).h = s.h := rfl
@[simp] theorem State.finish_s2 (s : State) : (s.finish).s2 = s.s2 := rfl
@[simp] theorem State.finish_mask (s : State) : (s.finish).mask = s.mask := rfl
@[simp] theorem State.finish_out (s : State) : (s.finish).out = s.out := rfl
@[simp] theorem State.finish_buf (s : State) : (s.finish).buf = s.buf := rfl
@[simp] theorem State.finish_xy (s : State) : (s.finish).xy = s.xy := rfl
@[simp] theorem State.finish_v (s : State) : (s.finish).v = s.v := rfl
@[simp] theorem State.finish_dp (s : State) : (s.finish).dp = s.dp := rfl
@[simp] theorem State.finish_resets (s : State) : (s.finish).resets = s.resets := rfl
@[simp] theorem State.finish_accepted (s : State) : (s.finish).accepted = s.accepted := rfl
@[simp] theorem State.finish_delay (s : State) : (s.finish).delay = s.delay := rfl
@[simp] theorem State.finish_pending (s : State) : (s.finish).pending = s.pending := rfl
@[simp] theorem State.finish_responses (s : State) : (s.finish).responses = s.responses := rfl

/-! ## raiseError -/

@[simp] theorem State.raiseError_cfg (s : State) (c : ErrorCode) : (s.raiseError c).cfg = s.cfg := rfl
@[simp] theorem State.raiseError_status (s : State) (c : ErrorCode) : (s.raiseError c).status = s.status.failed c := rfl
@[simp] theorem State.raiseError_ieEn (s : State) (c : ErrorCode) : (s.raiseError c).ieEn = s.ieEn := rfl
@[simp] theorem State.raiseError_n (s : State) (c : ErrorCode) : (s.raiseError c).n = s.n := rfl
@[simp] theorem State.raiseError_r (s : State) (c : ErrorCode) : (s.raiseError c).r = s.r := rfl
@[simp] theorem State.raiseError_p (s : State) (c : ErrorCode) : (s.raiseError c).p = s.p := rfl
@[simp] theorem State.raiseError_mult (s : State) (c : ErrorCode) : (s.raiseError c).mult = s.mult := rfl
@[simp] theorem State.raiseError_diff (s : State) (c : ErrorCode) : (s.raiseError c).diff = s.diff := rfl
@[simp] theorem State.raiseError_tblidx (s : State) (c : ErrorCode) : (s.raiseError c).tblidx = s.tblidx := rfl
@[simp] theorem State.raiseError_k (s : State) (c : ErrorCode) : (s.raiseError c).k = s.k := rfl
@[simp] theorem State.raiseError_curw (s : State) (c : ErrorCode) : (s.raiseError c).curw = s.curw := rfl
@[simp] theorem State.raiseError_hdr (s : State) (c : ErrorCode) : (s.raiseError c).hdr = s.hdr := rfl
@[simp] theorem State.raiseError_sbuf (s : State) (c : ErrorCode) : (s.raiseError c).sbuf = s.sbuf := rfl
@[simp] theorem State.raiseError_h (s : State) (c : ErrorCode) : (s.raiseError c).h = s.h := rfl
@[simp] theorem State.raiseError_s2 (s : State) (c : ErrorCode) : (s.raiseError c).s2 = s.s2 := rfl
@[simp] theorem State.raiseError_mask (s : State) (c : ErrorCode) : (s.raiseError c).mask = s.mask := rfl
@[simp] theorem State.raiseError_out (s : State) (c : ErrorCode) : (s.raiseError c).out = s.out := rfl
@[simp] theorem State.raiseError_buf (s : State) (c : ErrorCode) : (s.raiseError c).buf = s.buf := rfl
@[simp] theorem State.raiseError_xy (s : State) (c : ErrorCode) : (s.raiseError c).xy = s.xy := rfl
@[simp] theorem State.raiseError_v (s : State) (c : ErrorCode) : (s.raiseError c).v = s.v := rfl
@[simp] theorem State.raiseError_dp (s : State) (c : ErrorCode) : (s.raiseError c).dp = s.dp := rfl
@[simp] theorem State.raiseError_resets (s : State) (c : ErrorCode) : (s.raiseError c).resets = s.resets := rfl
@[simp] theorem State.raiseError_accepted (s : State) (c : ErrorCode) : (s.raiseError c).accepted = s.accepted := rfl
@[simp] theorem State.raiseError_delay (s : State) (c : ErrorCode) : (s.raiseError c).delay = s.delay := rfl
@[simp] theorem State.raiseError_pending (s : State) (c : ErrorCode) : (s.raiseError c).pending = s.pending := rfl
@[simp] theorem State.raiseError_responses (s : State) (c : ErrorCode) : (s.raiseError c).responses = s.responses := rfl

/-! ## illegalCommand -/

@[simp] theorem State.illegalCommand_cfg (s : State) : (s.illegalCommand).cfg = s.cfg := rfl
@[simp] theorem State.illegalCommand_status (s : State) : (s.illegalCommand).status = s.status.failed .illegalCommand := rfl
@[simp] theorem State.illegalCommand_ieEn (s : State) : (s.illegalCommand).ieEn = s.ieEn := rfl
@[simp] theorem State.illegalCommand_n (s : State) : (s.illegalCommand).n = s.n := rfl
@[simp] theorem State.illegalCommand_r (s : State) : (s.illegalCommand).r = s.r := rfl
@[simp] theorem State.illegalCommand_p (s : State) : (s.illegalCommand).p = s.p := rfl
@[simp] theorem State.illegalCommand_mult (s : State) : (s.illegalCommand).mult = s.mult := rfl
@[simp] theorem State.illegalCommand_diff (s : State) : (s.illegalCommand).diff = s.diff := rfl
@[simp] theorem State.illegalCommand_tblidx (s : State) : (s.illegalCommand).tblidx = s.tblidx := rfl
@[simp] theorem State.illegalCommand_k (s : State) : (s.illegalCommand).k = s.k := rfl
@[simp] theorem State.illegalCommand_curw (s : State) : (s.illegalCommand).curw = s.curw := rfl
@[simp] theorem State.illegalCommand_hdr (s : State) : (s.illegalCommand).hdr = s.hdr := rfl
@[simp] theorem State.illegalCommand_sbuf (s : State) : (s.illegalCommand).sbuf = s.sbuf := rfl
@[simp] theorem State.illegalCommand_h (s : State) : (s.illegalCommand).h = s.h := rfl
@[simp] theorem State.illegalCommand_s2 (s : State) : (s.illegalCommand).s2 = s.s2 := rfl
@[simp] theorem State.illegalCommand_mask (s : State) : (s.illegalCommand).mask = s.mask := rfl
@[simp] theorem State.illegalCommand_out (s : State) : (s.illegalCommand).out = s.out := rfl
@[simp] theorem State.illegalCommand_buf (s : State) : (s.illegalCommand).buf = s.buf := rfl
@[simp] theorem State.illegalCommand_xy (s : State) : (s.illegalCommand).xy = s.xy := rfl
@[simp] theorem State.illegalCommand_v (s : State) : (s.illegalCommand).v = s.v := rfl
@[simp] theorem State.illegalCommand_dp (s : State) : (s.illegalCommand).dp = s.dp := rfl
@[simp] theorem State.illegalCommand_resets (s : State) : (s.illegalCommand).resets = s.resets := rfl
@[simp] theorem State.illegalCommand_accepted (s : State) : (s.illegalCommand).accepted = s.accepted := rfl
@[simp] theorem State.illegalCommand_delay (s : State) : (s.illegalCommand).delay = s.delay := rfl
@[simp] theorem State.illegalCommand_pending (s : State) : (s.illegalCommand).pending = s.pending := rfl
@[simp] theorem State.illegalCommand_responses (s : State) : (s.illegalCommand).responses = s.responses := rfl

/-! ## acknowledge -/

@[simp] theorem State.acknowledge_cfg (s : State) (u : Word) : (s.acknowledge u).cfg = s.cfg := rfl
@[simp] theorem State.acknowledge_status (s : State) (u : Word) : (s.acknowledge u).status = s.status.acknowledge u := rfl
@[simp] theorem State.acknowledge_ieEn (s : State) (u : Word) : (s.acknowledge u).ieEn = s.ieEn := rfl
@[simp] theorem State.acknowledge_n (s : State) (u : Word) : (s.acknowledge u).n = s.n := rfl
@[simp] theorem State.acknowledge_r (s : State) (u : Word) : (s.acknowledge u).r = s.r := rfl
@[simp] theorem State.acknowledge_p (s : State) (u : Word) : (s.acknowledge u).p = s.p := rfl
@[simp] theorem State.acknowledge_mult (s : State) (u : Word) : (s.acknowledge u).mult = s.mult := rfl
@[simp] theorem State.acknowledge_diff (s : State) (u : Word) : (s.acknowledge u).diff = s.diff := rfl
@[simp] theorem State.acknowledge_tblidx (s : State) (u : Word) : (s.acknowledge u).tblidx = s.tblidx := rfl
@[simp] theorem State.acknowledge_k (s : State) (u : Word) : (s.acknowledge u).k = s.k := rfl
@[simp] theorem State.acknowledge_curw (s : State) (u : Word) : (s.acknowledge u).curw = s.curw := rfl
@[simp] theorem State.acknowledge_hdr (s : State) (u : Word) : (s.acknowledge u).hdr = s.hdr := rfl
@[simp] theorem State.acknowledge_sbuf (s : State) (u : Word) : (s.acknowledge u).sbuf = s.sbuf := rfl
@[simp] theorem State.acknowledge_h (s : State) (u : Word) : (s.acknowledge u).h = s.h := rfl
@[simp] theorem State.acknowledge_s2 (s : State) (u : Word) : (s.acknowledge u).s2 = s.s2 := rfl
@[simp] theorem State.acknowledge_mask (s : State) (u : Word) : (s.acknowledge u).mask = s.mask := rfl
@[simp] theorem State.acknowledge_out (s : State) (u : Word) : (s.acknowledge u).out = s.out := rfl
@[simp] theorem State.acknowledge_buf (s : State) (u : Word) : (s.acknowledge u).buf = s.buf := rfl
@[simp] theorem State.acknowledge_xy (s : State) (u : Word) : (s.acknowledge u).xy = s.xy := rfl
@[simp] theorem State.acknowledge_v (s : State) (u : Word) : (s.acknowledge u).v = s.v := rfl
@[simp] theorem State.acknowledge_dp (s : State) (u : Word) : (s.acknowledge u).dp = s.dp := rfl
@[simp] theorem State.acknowledge_resets (s : State) (u : Word) : (s.acknowledge u).resets = s.resets := rfl
@[simp] theorem State.acknowledge_accepted (s : State) (u : Word) : (s.acknowledge u).accepted = s.accepted := rfl
@[simp] theorem State.acknowledge_delay (s : State) (u : Word) : (s.acknowledge u).delay = s.delay := rfl
@[simp] theorem State.acknowledge_pending (s : State) (u : Word) : (s.acknowledge u).pending = s.pending := rfl
@[simp] theorem State.acknowledge_responses (s : State) (u : Word) : (s.acknowledge u).responses = s.responses := rfl

/-! ## respond -/

@[simp] theorem State.respond_cfg (s : State) (a : BusResponse) : (s.respond a).cfg = s.cfg := rfl
@[simp] theorem State.respond_status (s : State) (a : BusResponse) : (s.respond a).status = s.status := rfl
@[simp] theorem State.respond_ieEn (s : State) (a : BusResponse) : (s.respond a).ieEn = s.ieEn := rfl
@[simp] theorem State.respond_n (s : State) (a : BusResponse) : (s.respond a).n = s.n := rfl
@[simp] theorem State.respond_r (s : State) (a : BusResponse) : (s.respond a).r = s.r := rfl
@[simp] theorem State.respond_p (s : State) (a : BusResponse) : (s.respond a).p = s.p := rfl
@[simp] theorem State.respond_mult (s : State) (a : BusResponse) : (s.respond a).mult = s.mult := rfl
@[simp] theorem State.respond_diff (s : State) (a : BusResponse) : (s.respond a).diff = s.diff := rfl
@[simp] theorem State.respond_tblidx (s : State) (a : BusResponse) : (s.respond a).tblidx = s.tblidx := rfl
@[simp] theorem State.respond_k (s : State) (a : BusResponse) : (s.respond a).k = s.k := rfl
@[simp] theorem State.respond_curw (s : State) (a : BusResponse) : (s.respond a).curw = s.curw := rfl
@[simp] theorem State.respond_hdr (s : State) (a : BusResponse) : (s.respond a).hdr = s.hdr := rfl
@[simp] theorem State.respond_sbuf (s : State) (a : BusResponse) : (s.respond a).sbuf = s.sbuf := rfl
@[simp] theorem State.respond_h (s : State) (a : BusResponse) : (s.respond a).h = s.h := rfl
@[simp] theorem State.respond_s2 (s : State) (a : BusResponse) : (s.respond a).s2 = s.s2 := rfl
@[simp] theorem State.respond_mask (s : State) (a : BusResponse) : (s.respond a).mask = s.mask := rfl
@[simp] theorem State.respond_out (s : State) (a : BusResponse) : (s.respond a).out = s.out := rfl
@[simp] theorem State.respond_buf (s : State) (a : BusResponse) : (s.respond a).buf = s.buf := rfl
@[simp] theorem State.respond_xy (s : State) (a : BusResponse) : (s.respond a).xy = s.xy := rfl
@[simp] theorem State.respond_v (s : State) (a : BusResponse) : (s.respond a).v = s.v := rfl
@[simp] theorem State.respond_dp (s : State) (a : BusResponse) : (s.respond a).dp = s.dp := rfl
@[simp] theorem State.respond_resets (s : State) (a : BusResponse) : (s.respond a).resets = s.resets := rfl
@[simp] theorem State.respond_accepted (s : State) (a : BusResponse) : (s.respond a).accepted = s.accepted := rfl
@[simp] theorem State.respond_delay (s : State) (a : BusResponse) : (s.respond a).delay = s.delay := rfl
@[simp] theorem State.respond_pending (s : State) (a : BusResponse) : (s.respond a).pending = s.pending := rfl
@[simp] theorem State.respond_responses (s : State) (a : BusResponse) : (s.respond a).responses = a :: s.responses := rfl

/-! ## take -/

@[simp] theorem State.take_cfg (s : State) (rest : List HostEvent) : (s.take rest).cfg = s.cfg := rfl
@[simp] theorem State.take_status (s : State) (rest : List HostEvent) : (s.take rest).status = s.status := rfl
@[simp] theorem State.take_ieEn (s : State) (rest : List HostEvent) : (s.take rest).ieEn = s.ieEn := rfl
@[simp] theorem State.take_n (s : State) (rest : List HostEvent) : (s.take rest).n = s.n := rfl
@[simp] theorem State.take_r (s : State) (rest : List HostEvent) : (s.take rest).r = s.r := rfl
@[simp] theorem State.take_p (s : State) (rest : List HostEvent) : (s.take rest).p = s.p := rfl
@[simp] theorem State.take_mult (s : State) (rest : List HostEvent) : (s.take rest).mult = s.mult := rfl
@[simp] theorem State.take_diff (s : State) (rest : List HostEvent) : (s.take rest).diff = s.diff := rfl
@[simp] theorem State.take_tblidx (s : State) (rest : List HostEvent) : (s.take rest).tblidx = s.tblidx := rfl
@[simp] theorem State.take_k (s : State) (rest : List HostEvent) : (s.take rest).k = s.k := rfl
@[simp] theorem State.take_curw (s : State) (rest : List HostEvent) : (s.take rest).curw = s.curw := rfl
@[simp] theorem State.take_hdr (s : State) (rest : List HostEvent) : (s.take rest).hdr = s.hdr := rfl
@[simp] theorem State.take_sbuf (s : State) (rest : List HostEvent) : (s.take rest).sbuf = s.sbuf := rfl
@[simp] theorem State.take_h (s : State) (rest : List HostEvent) : (s.take rest).h = s.h := rfl
@[simp] theorem State.take_s2 (s : State) (rest : List HostEvent) : (s.take rest).s2 = s.s2 := rfl
@[simp] theorem State.take_mask (s : State) (rest : List HostEvent) : (s.take rest).mask = s.mask := rfl
@[simp] theorem State.take_out (s : State) (rest : List HostEvent) : (s.take rest).out = s.out := rfl
@[simp] theorem State.take_buf (s : State) (rest : List HostEvent) : (s.take rest).buf = s.buf := rfl
@[simp] theorem State.take_xy (s : State) (rest : List HostEvent) : (s.take rest).xy = s.xy := rfl
@[simp] theorem State.take_v (s : State) (rest : List HostEvent) : (s.take rest).v = s.v := rfl
@[simp] theorem State.take_dp (s : State) (rest : List HostEvent) : (s.take rest).dp = s.dp := rfl
@[simp] theorem State.take_resets (s : State) (rest : List HostEvent) : (s.take rest).resets = s.resets := rfl
@[simp] theorem State.take_accepted (s : State) (rest : List HostEvent) : (s.take rest).accepted = s.accepted := rfl
@[simp] theorem State.take_delay (s : State) (rest : List HostEvent) : (s.take rest).delay = if s.status.busy then s.delay - 1 else s.delay := rfl
@[simp] theorem State.take_pending (s : State) (rest : List HostEvent) : (s.take rest).pending = rest := rfl
@[simp] theorem State.take_responses (s : State) (rest : List HostEvent) : (s.take rest).responses = s.responses := rfl

/-! ## storeBuf -/

@[simp] theorem State.storeBuf_cfg (s : State) (a : Nat) (bytes : List Byte) : (s.storeBuf a bytes).cfg = s.cfg := rfl
@[simp] theorem State.storeBuf_status (s : State) (a : Nat) (bytes : List Byte) : (s.storeBuf a bytes).status = s.status := rfl
@[simp] theorem State.storeBuf_ieEn (s : State) (a : Nat) (bytes : List Byte) : (s.storeBuf a bytes).ieEn = s.ieEn := rfl
@[simp] theorem State.storeBuf_n (s : State) (a : Nat) (bytes : List Byte) : (s.storeBuf a bytes).n = s.n := rfl
@[simp] theorem State.storeBuf_r (s : State) (a : Nat) (bytes : List Byte) : (s.storeBuf a bytes).r = s.r := rfl
@[simp] theorem State.storeBuf_p (s : State) (a : Nat) (bytes : List Byte) : (s.storeBuf a bytes).p = s.p := rfl
@[simp] theorem State.storeBuf_mult (s : State) (a : Nat) (bytes : List Byte) : (s.storeBuf a bytes).mult = s.mult := rfl
@[simp] theorem State.storeBuf_diff (s : State) (a : Nat) (bytes : List Byte) : (s.storeBuf a bytes).diff = s.diff := rfl
@[simp] theorem State.storeBuf_tblidx (s : State) (a : Nat) (bytes : List Byte) : (s.storeBuf a bytes).tblidx = s.tblidx := rfl
@[simp] theorem State.storeBuf_k (s : State) (a : Nat) (bytes : List Byte) : (s.storeBuf a bytes).k = s.k := rfl
@[simp] theorem State.storeBuf_curw (s : State) (a : Nat) (bytes : List Byte) : (s.storeBuf a bytes).curw = s.curw := rfl
@[simp] theorem State.storeBuf_hdr (s : State) (a : Nat) (bytes : List Byte) : (s.storeBuf a bytes).hdr = s.hdr := rfl
@[simp] theorem State.storeBuf_sbuf (s : State) (a : Nat) (bytes : List Byte) : (s.storeBuf a bytes).sbuf = s.sbuf := rfl
@[simp] theorem State.storeBuf_h (s : State) (a : Nat) (bytes : List Byte) : (s.storeBuf a bytes).h = s.h := rfl
@[simp] theorem State.storeBuf_s2 (s : State) (a : Nat) (bytes : List Byte) : (s.storeBuf a bytes).s2 = s.s2 := rfl
@[simp] theorem State.storeBuf_mask (s : State) (a : Nat) (bytes : List Byte) : (s.storeBuf a bytes).mask = s.mask := rfl
@[simp] theorem State.storeBuf_out (s : State) (a : Nat) (bytes : List Byte) : (s.storeBuf a bytes).out = s.out := rfl
@[simp] theorem State.storeBuf_buf (s : State) (a : Nat) (bytes : List Byte) : (s.storeBuf a bytes).buf = Memory.store s.buf a bytes := rfl
@[simp] theorem State.storeBuf_xy (s : State) (a : Nat) (bytes : List Byte) : (s.storeBuf a bytes).xy = s.xy := rfl
@[simp] theorem State.storeBuf_v (s : State) (a : Nat) (bytes : List Byte) : (s.storeBuf a bytes).v = s.v := rfl
@[simp] theorem State.storeBuf_dp (s : State) (a : Nat) (bytes : List Byte) : (s.storeBuf a bytes).dp = s.dp := rfl
@[simp] theorem State.storeBuf_resets (s : State) (a : Nat) (bytes : List Byte) : (s.storeBuf a bytes).resets = s.resets := rfl
@[simp] theorem State.storeBuf_accepted (s : State) (a : Nat) (bytes : List Byte) : (s.storeBuf a bytes).accepted = s.accepted := rfl
@[simp] theorem State.storeBuf_delay (s : State) (a : Nat) (bytes : List Byte) : (s.storeBuf a bytes).delay = s.delay := rfl
@[simp] theorem State.storeBuf_pending (s : State) (a : Nat) (bytes : List Byte) : (s.storeBuf a bytes).pending = s.pending := rfl
@[simp] theorem State.storeBuf_responses (s : State) (a : Nat) (bytes : List Byte) : (s.storeBuf a bytes).responses = s.responses := rfl

/-! ## storeXy -/

@[simp] theorem State.storeXy_cfg (s : State) (a : Nat) (bytes : List Byte) : (s.storeXy a bytes).cfg = s.cfg := rfl
@[simp] theorem State.storeXy_status (s : State) (a : Nat) (bytes : List Byte) : (s.storeXy a bytes).status = s.status := rfl
@[simp] theorem State.storeXy_ieEn (s : State) (a : Nat) (bytes : List Byte) : (s.storeXy a bytes).ieEn = s.ieEn := rfl
@[simp] theorem State.storeXy_n (s : State) (a : Nat) (bytes : List Byte) : (s.storeXy a bytes).n = s.n := rfl
@[simp] theorem State.storeXy_r (s : State) (a : Nat) (bytes : List Byte) : (s.storeXy a bytes).r = s.r := rfl
@[simp] theorem State.storeXy_p (s : State) (a : Nat) (bytes : List Byte) : (s.storeXy a bytes).p = s.p := rfl
@[simp] theorem State.storeXy_mult (s : State) (a : Nat) (bytes : List Byte) : (s.storeXy a bytes).mult = s.mult := rfl
@[simp] theorem State.storeXy_diff (s : State) (a : Nat) (bytes : List Byte) : (s.storeXy a bytes).diff = s.diff := rfl
@[simp] theorem State.storeXy_tblidx (s : State) (a : Nat) (bytes : List Byte) : (s.storeXy a bytes).tblidx = s.tblidx := rfl
@[simp] theorem State.storeXy_k (s : State) (a : Nat) (bytes : List Byte) : (s.storeXy a bytes).k = s.k := rfl
@[simp] theorem State.storeXy_curw (s : State) (a : Nat) (bytes : List Byte) : (s.storeXy a bytes).curw = s.curw := rfl
@[simp] theorem State.storeXy_hdr (s : State) (a : Nat) (bytes : List Byte) : (s.storeXy a bytes).hdr = s.hdr := rfl
@[simp] theorem State.storeXy_sbuf (s : State) (a : Nat) (bytes : List Byte) : (s.storeXy a bytes).sbuf = s.sbuf := rfl
@[simp] theorem State.storeXy_h (s : State) (a : Nat) (bytes : List Byte) : (s.storeXy a bytes).h = s.h := rfl
@[simp] theorem State.storeXy_s2 (s : State) (a : Nat) (bytes : List Byte) : (s.storeXy a bytes).s2 = s.s2 := rfl
@[simp] theorem State.storeXy_mask (s : State) (a : Nat) (bytes : List Byte) : (s.storeXy a bytes).mask = s.mask := rfl
@[simp] theorem State.storeXy_out (s : State) (a : Nat) (bytes : List Byte) : (s.storeXy a bytes).out = s.out := rfl
@[simp] theorem State.storeXy_buf (s : State) (a : Nat) (bytes : List Byte) : (s.storeXy a bytes).buf = s.buf := rfl
@[simp] theorem State.storeXy_xy (s : State) (a : Nat) (bytes : List Byte) : (s.storeXy a bytes).xy = Memory.store s.xy a bytes := rfl
@[simp] theorem State.storeXy_v (s : State) (a : Nat) (bytes : List Byte) : (s.storeXy a bytes).v = s.v := rfl
@[simp] theorem State.storeXy_dp (s : State) (a : Nat) (bytes : List Byte) : (s.storeXy a bytes).dp = s.dp := rfl
@[simp] theorem State.storeXy_resets (s : State) (a : Nat) (bytes : List Byte) : (s.storeXy a bytes).resets = s.resets := rfl
@[simp] theorem State.storeXy_accepted (s : State) (a : Nat) (bytes : List Byte) : (s.storeXy a bytes).accepted = s.accepted := rfl
@[simp] theorem State.storeXy_delay (s : State) (a : Nat) (bytes : List Byte) : (s.storeXy a bytes).delay = s.delay := rfl
@[simp] theorem State.storeXy_pending (s : State) (a : Nat) (bytes : List Byte) : (s.storeXy a bytes).pending = s.pending := rfl
@[simp] theorem State.storeXy_responses (s : State) (a : Nat) (bytes : List Byte) : (s.storeXy a bytes).responses = s.responses := rfl

/-! ## setV -/

@[simp] theorem State.setV_cfg (s : State) (m : Memory) : (s.setV m).cfg = s.cfg := rfl
@[simp] theorem State.setV_status (s : State) (m : Memory) : (s.setV m).status = s.status := rfl
@[simp] theorem State.setV_ieEn (s : State) (m : Memory) : (s.setV m).ieEn = s.ieEn := rfl
@[simp] theorem State.setV_n (s : State) (m : Memory) : (s.setV m).n = s.n := rfl
@[simp] theorem State.setV_r (s : State) (m : Memory) : (s.setV m).r = s.r := rfl
@[simp] theorem State.setV_p (s : State) (m : Memory) : (s.setV m).p = s.p := rfl
@[simp] theorem State.setV_mult (s : State) (m : Memory) : (s.setV m).mult = s.mult := rfl
@[simp] theorem State.setV_diff (s : State) (m : Memory) : (s.setV m).diff = s.diff := rfl
@[simp] theorem State.setV_tblidx (s : State) (m : Memory) : (s.setV m).tblidx = s.tblidx := rfl
@[simp] theorem State.setV_k (s : State) (m : Memory) : (s.setV m).k = s.k := rfl
@[simp] theorem State.setV_curw (s : State) (m : Memory) : (s.setV m).curw = s.curw := rfl
@[simp] theorem State.setV_hdr (s : State) (m : Memory) : (s.setV m).hdr = s.hdr := rfl
@[simp] theorem State.setV_sbuf (s : State) (m : Memory) : (s.setV m).sbuf = s.sbuf := rfl
@[simp] theorem State.setV_h (s : State) (m : Memory) : (s.setV m).h = s.h := rfl
@[simp] theorem State.setV_s2 (s : State) (m : Memory) : (s.setV m).s2 = s.s2 := rfl
@[simp] theorem State.setV_mask (s : State) (m : Memory) : (s.setV m).mask = s.mask := rfl
@[simp] theorem State.setV_out (s : State) (m : Memory) : (s.setV m).out = s.out := rfl
@[simp] theorem State.setV_buf (s : State) (m : Memory) : (s.setV m).buf = s.buf := rfl
@[simp] theorem State.setV_xy (s : State) (m : Memory) : (s.setV m).xy = s.xy := rfl
@[simp] theorem State.setV_v (s : State) (m : Memory) : (s.setV m).v = m := rfl
@[simp] theorem State.setV_dp (s : State) (m : Memory) : (s.setV m).dp = s.dp := rfl
@[simp] theorem State.setV_resets (s : State) (m : Memory) : (s.setV m).resets = s.resets := rfl
@[simp] theorem State.setV_accepted (s : State) (m : Memory) : (s.setV m).accepted = s.accepted := rfl
@[simp] theorem State.setV_delay (s : State) (m : Memory) : (s.setV m).delay = s.delay := rfl
@[simp] theorem State.setV_pending (s : State) (m : Memory) : (s.setV m).pending = s.pending := rfl
@[simp] theorem State.setV_responses (s : State) (m : Memory) : (s.setV m).responses = s.responses := rfl

/-! ## setDatapath -/

@[simp] theorem State.setDatapath_cfg (s : State) (d : Datapath) : (s.setDatapath d).cfg = s.cfg := rfl
@[simp] theorem State.setDatapath_status (s : State) (d : Datapath) : (s.setDatapath d).status = s.status := rfl
@[simp] theorem State.setDatapath_ieEn (s : State) (d : Datapath) : (s.setDatapath d).ieEn = s.ieEn := rfl
@[simp] theorem State.setDatapath_n (s : State) (d : Datapath) : (s.setDatapath d).n = s.n := rfl
@[simp] theorem State.setDatapath_r (s : State) (d : Datapath) : (s.setDatapath d).r = s.r := rfl
@[simp] theorem State.setDatapath_p (s : State) (d : Datapath) : (s.setDatapath d).p = s.p := rfl
@[simp] theorem State.setDatapath_mult (s : State) (d : Datapath) : (s.setDatapath d).mult = s.mult := rfl
@[simp] theorem State.setDatapath_diff (s : State) (d : Datapath) : (s.setDatapath d).diff = s.diff := rfl
@[simp] theorem State.setDatapath_tblidx (s : State) (d : Datapath) : (s.setDatapath d).tblidx = s.tblidx := rfl
@[simp] theorem State.setDatapath_k (s : State) (d : Datapath) : (s.setDatapath d).k = s.k := rfl
@[simp] theorem State.setDatapath_curw (s : State) (d : Datapath) : (s.setDatapath d).curw = s.curw := rfl
@[simp] theorem State.setDatapath_hdr (s : State) (d : Datapath) : (s.setDatapath d).hdr = s.hdr := rfl
@[simp] theorem State.setDatapath_sbuf (s : State) (d : Datapath) : (s.setDatapath d).sbuf = s.sbuf := rfl
@[simp] theorem State.setDatapath_h (s : State) (d : Datapath) : (s.setDatapath d).h = s.h := rfl
@[simp] theorem State.setDatapath_s2 (s : State) (d : Datapath) : (s.setDatapath d).s2 = s.s2 := rfl
@[simp] theorem State.setDatapath_mask (s : State) (d : Datapath) : (s.setDatapath d).mask = s.mask := rfl
@[simp] theorem State.setDatapath_out (s : State) (d : Datapath) : (s.setDatapath d).out = s.out := rfl
@[simp] theorem State.setDatapath_buf (s : State) (d : Datapath) : (s.setDatapath d).buf = s.buf := rfl
@[simp] theorem State.setDatapath_xy (s : State) (d : Datapath) : (s.setDatapath d).xy = s.xy := rfl
@[simp] theorem State.setDatapath_v (s : State) (d : Datapath) : (s.setDatapath d).v = s.v := rfl
@[simp] theorem State.setDatapath_dp (s : State) (d : Datapath) : (s.setDatapath d).dp = d := rfl
@[simp] theorem State.setDatapath_resets (s : State) (d : Datapath) : (s.setDatapath d).resets = s.resets := rfl
@[simp] theorem State.setDatapath_accepted (s : State) (d : Datapath) : (s.setDatapath d).accepted = s.accepted := rfl
@[simp] theorem State.setDatapath_delay (s : State) (d : Datapath) : (s.setDatapath d).delay = s.delay := rfl
@[simp] theorem State.setDatapath_pending (s : State) (d : Datapath) : (s.setDatapath d).pending = s.pending := rfl
@[simp] theorem State.setDatapath_responses (s : State) (d : Datapath) : (s.setDatapath d).responses = s.responses := rfl

/-! ## latchChain -/

@[simp] theorem State.latchChain_cfg (s : State) (chain : List Datapath) : (s.latchChain chain).cfg = s.cfg := rfl
@[simp] theorem State.latchChain_status (s : State) (chain : List Datapath) : (s.latchChain chain).status = s.status := rfl
@[simp] theorem State.latchChain_ieEn (s : State) (chain : List Datapath) : (s.latchChain chain).ieEn = s.ieEn := rfl
@[simp] theorem State.latchChain_n (s : State) (chain : List Datapath) : (s.latchChain chain).n = s.n := rfl
@[simp] theorem State.latchChain_r (s : State) (chain : List Datapath) : (s.latchChain chain).r = s.r := rfl
@[simp] theorem State.latchChain_p (s : State) (chain : List Datapath) : (s.latchChain chain).p = s.p := rfl
@[simp] theorem State.latchChain_mult (s : State) (chain : List Datapath) : (s.latchChain chain).mult = s.mult := rfl
@[simp] theorem State.latchChain_diff (s : State) (chain : List Datapath) : (s.latchChain chain).diff = s.diff := rfl
@[simp] theorem State.latchChain_tblidx (s : State) (chain : List Datapath) : (s.latchChain chain).tblidx = s.tblidx := rfl
@[simp] theorem State.latchChain_k (s : State) (chain : List Datapath) : (s.latchChain chain).k = s.k := rfl
@[simp] theorem State.latchChain_curw (s : State) (chain : List Datapath) : (s.latchChain chain).curw = s.curw := rfl
@[simp] theorem State.latchChain_hdr (s : State) (chain : List Datapath) : (s.latchChain chain).hdr = s.hdr := rfl
@[simp] theorem State.latchChain_sbuf (s : State) (chain : List Datapath) : (s.latchChain chain).sbuf = s.sbuf := rfl
@[simp] theorem State.latchChain_h (s : State) (chain : List Datapath) : (s.latchChain chain).h = s.h := rfl
@[simp] theorem State.latchChain_s2 (s : State) (chain : List Datapath) : (s.latchChain chain).s2 = s.s2 := rfl
@[simp] theorem State.latchChain_mask (s : State) (chain : List Datapath) : (s.latchChain chain).mask = s.mask := rfl
@[simp] theorem State.latchChain_out (s : State) (chain : List Datapath) : (s.latchChain chain).out = s.out := rfl
@[simp] theorem State.latchChain_buf (s : State) (chain : List Datapath) : (s.latchChain chain).buf = s.buf := rfl
@[simp] theorem State.latchChain_xy (s : State) (chain : List Datapath) : (s.latchChain chain).xy = s.xy := rfl
@[simp] theorem State.latchChain_v (s : State) (chain : List Datapath) : (s.latchChain chain).v = s.v := rfl
@[simp] theorem State.latchChain_dp (s : State) (chain : List Datapath) : (s.latchChain chain).dp = chain.getLast?.getD s.dp := rfl
@[simp] theorem State.latchChain_resets (s : State) (chain : List Datapath) : (s.latchChain chain).resets = s.resets := rfl
@[simp] theorem State.latchChain_accepted (s : State) (chain : List Datapath) : (s.latchChain chain).accepted = s.accepted := rfl
@[simp] theorem State.latchChain_delay (s : State) (chain : List Datapath) : (s.latchChain chain).delay = s.delay := rfl
@[simp] theorem State.latchChain_pending (s : State) (chain : List Datapath) : (s.latchChain chain).pending = s.pending := rfl
@[simp] theorem State.latchChain_responses (s : State) (chain : List Datapath) : (s.latchChain chain).responses = s.responses := rfl

/-! ## setMask -/

@[simp] theorem State.setMask_cfg (s : State) : (s.setMask).cfg = s.cfg := rfl
@[simp] theorem State.setMask_status (s : State) : (s.setMask).status = s.status := rfl
@[simp] theorem State.setMask_ieEn (s : State) : (s.setMask).ieEn = s.ieEn := rfl
@[simp] theorem State.setMask_n (s : State) : (s.setMask).n = s.n := rfl
@[simp] theorem State.setMask_r (s : State) : (s.setMask).r = s.r := rfl
@[simp] theorem State.setMask_p (s : State) : (s.setMask).p = s.p := rfl
@[simp] theorem State.setMask_mult (s : State) : (s.setMask).mult = s.mult := rfl
@[simp] theorem State.setMask_diff (s : State) : (s.setMask).diff = s.diff := rfl
@[simp] theorem State.setMask_tblidx (s : State) : (s.setMask).tblidx = s.tblidx := rfl
@[simp] theorem State.setMask_k (s : State) : (s.setMask).k = (maskOf s.cfg s.h).1 := rfl
@[simp] theorem State.setMask_curw (s : State) : (s.setMask).curw = s.curw := rfl
@[simp] theorem State.setMask_hdr (s : State) : (s.setMask).hdr = s.hdr := rfl
@[simp] theorem State.setMask_sbuf (s : State) : (s.setMask).sbuf = s.sbuf := rfl
@[simp] theorem State.setMask_h (s : State) : (s.setMask).h = s.h := rfl
@[simp] theorem State.setMask_s2 (s : State) : (s.setMask).s2 = s.s2 := rfl
@[simp] theorem State.setMask_mask (s : State) : (s.setMask).mask = (maskOf s.cfg s.h).2 := rfl
@[simp] theorem State.setMask_out (s : State) : (s.setMask).out = s.out := rfl
@[simp] theorem State.setMask_buf (s : State) : (s.setMask).buf = s.buf := rfl
@[simp] theorem State.setMask_xy (s : State) : (s.setMask).xy = s.xy := rfl
@[simp] theorem State.setMask_v (s : State) : (s.setMask).v = s.v := rfl
@[simp] theorem State.setMask_dp (s : State) : (s.setMask).dp = s.dp := rfl
@[simp] theorem State.setMask_resets (s : State) : (s.setMask).resets = s.resets := rfl
@[simp] theorem State.setMask_accepted (s : State) : (s.setMask).accepted = s.accepted := rfl
@[simp] theorem State.setMask_delay (s : State) : (s.setMask).delay = s.delay := rfl
@[simp] theorem State.setMask_pending (s : State) : (s.setMask).pending = s.pending := rfl
@[simp] theorem State.setMask_responses (s : State) : (s.setMask).responses = s.responses := rfl

/-! ## selectRow -/

@[simp] theorem State.selectRow_cfg (s : State) (idx : Nat) (row : TableRow) : (s.selectRow idx row).cfg = s.cfg := rfl
@[simp] theorem State.selectRow_status (s : State) (idx : Nat) (row : TableRow) : (s.selectRow idx row).status = s.status := rfl
@[simp] theorem State.selectRow_ieEn (s : State) (idx : Nat) (row : TableRow) : (s.selectRow idx row).ieEn = s.ieEn := rfl
@[simp] theorem State.selectRow_n (s : State) (idx : Nat) (row : TableRow) : (s.selectRow idx row).n = BitVec.ofNat 32 (1024 * row.multiplier.toNat) := rfl
@[simp] theorem State.selectRow_r (s : State) (idx : Nat) (row : TableRow) : (s.selectRow idx row).r = row.r := rfl
@[simp] theorem State.selectRow_p (s : State) (idx : Nat) (row : TableRow) : (s.selectRow idx row).p = row.p := rfl
@[simp] theorem State.selectRow_mult (s : State) (idx : Nat) (row : TableRow) : (s.selectRow idx row).mult = row.multiplier := rfl
@[simp] theorem State.selectRow_diff (s : State) (idx : Nat) (row : TableRow) : (s.selectRow idx row).diff = s.diff := rfl
@[simp] theorem State.selectRow_tblidx (s : State) (idx : Nat) (row : TableRow) : (s.selectRow idx row).tblidx = tblidxWord idx := rfl
@[simp] theorem State.selectRow_k (s : State) (idx : Nat) (row : TableRow) : (s.selectRow idx row).k = s.k := rfl
@[simp] theorem State.selectRow_curw (s : State) (idx : Nat) (row : TableRow) : (s.selectRow idx row).curw = s.curw := rfl
@[simp] theorem State.selectRow_hdr (s : State) (idx : Nat) (row : TableRow) : (s.selectRow idx row).hdr = s.hdr := rfl
@[simp] theorem State.selectRow_sbuf (s : State) (idx : Nat) (row : TableRow) : (s.selectRow idx row).sbuf = s.sbuf := rfl
@[simp] theorem State.selectRow_h (s : State) (idx : Nat) (row : TableRow) : (s.selectRow idx row).h = s.h := rfl
@[simp] theorem State.selectRow_s2 (s : State) (idx : Nat) (row : TableRow) : (s.selectRow idx row).s2 = s.s2 := rfl
@[simp] theorem State.selectRow_mask (s : State) (idx : Nat) (row : TableRow) : (s.selectRow idx row).mask = s.mask := rfl
@[simp] theorem State.selectRow_out (s : State) (idx : Nat) (row : TableRow) : (s.selectRow idx row).out = s.out := rfl
@[simp] theorem State.selectRow_buf (s : State) (idx : Nat) (row : TableRow) : (s.selectRow idx row).buf = s.buf := rfl
@[simp] theorem State.selectRow_xy (s : State) (idx : Nat) (row : TableRow) : (s.selectRow idx row).xy = s.xy := rfl
@[simp] theorem State.selectRow_v (s : State) (idx : Nat) (row : TableRow) : (s.selectRow idx row).v = s.v := rfl
@[simp] theorem State.selectRow_dp (s : State) (idx : Nat) (row : TableRow) : (s.selectRow idx row).dp = s.dp := rfl
@[simp] theorem State.selectRow_resets (s : State) (idx : Nat) (row : TableRow) : (s.selectRow idx row).resets = s.resets := rfl
@[simp] theorem State.selectRow_accepted (s : State) (idx : Nat) (row : TableRow) : (s.selectRow idx row).accepted = s.accepted := rfl
@[simp] theorem State.selectRow_delay (s : State) (idx : Nat) (row : TableRow) : (s.selectRow idx row).delay = s.delay := rfl
@[simp] theorem State.selectRow_pending (s : State) (idx : Nat) (row : TableRow) : (s.selectRow idx row).pending = s.pending := rfl
@[simp] theorem State.selectRow_responses (s : State) (idx : Nat) (row : TableRow) : (s.selectRow idx row).responses = s.responses := rfl

/-! ## writeBlockMix -/

@[simp] theorem State.writeBlockMix_cfg (s : State) (chain : List Datapath) (m : Nat) : (s.writeBlockMix chain m).cfg = s.cfg := rfl
@[simp] theorem State.writeBlockMix_status (s : State) (chain : List Datapath) (m : Nat) : (s.writeBlockMix chain m).status = s.status := rfl
@[simp] theorem State.writeBlockMix_ieEn (s : State) (chain : List Datapath) (m : Nat) : (s.writeBlockMix chain m).ieEn = s.ieEn := rfl
@[simp] theorem State.writeBlockMix_n (s : State) (chain : List Datapath) (m : Nat) : (s.writeBlockMix chain m).n = s.n := rfl
@[simp] theorem State.writeBlockMix_r (s : State) (chain : List Datapath) (m : Nat) : (s.writeBlockMix chain m).r = s.r := rfl
@[simp] theorem State.writeBlockMix_p (s : State) (chain : List Datapath) (m : Nat) : (s.writeBlockMix chain m).p = s.p := rfl
@[simp] theorem State.writeBlockMix_mult (s : State) (chain : List Datapath) (m : Nat) : (s.writeBlockMix chain m).mult = s.mult := rfl
@[simp] theorem State.writeBlockMix_diff (s : State) (chain : List Datapath) (m : Nat) : (s.writeBlockMix chain m).diff = s.diff := rfl
@[simp] theorem State.writeBlockMix_tblidx (s : State) (chain : List Datapath) (m : Nat) : (s.writeBlockMix chain m).tblidx = s.tblidx := rfl
@[simp] theorem State.writeBlockMix_k (s : State) (chain : List Datapath) (m : Nat) : (s.writeBlockMix chain m).k = s.k := rfl
@[simp] theorem State.writeBlockMix_curw (s : State) (chain : List Datapath) (m : Nat) : (s.writeBlockMix chain m).curw = s.curw := rfl
@[simp] theorem State.writeBlockMix_hdr (s : State) (chain : List Datapath) (m : Nat) : (s.writeBlockMix chain m).hdr = s.hdr := rfl
@[simp] theorem State.writeBlockMix_sbuf (s : State) (chain : List Datapath) (m : Nat) : (s.writeBlockMix chain m).sbuf = s.sbuf := rfl
@[simp] theorem State.writeBlockMix_h (s : State) (chain : List Datapath) (m : Nat) : (s.writeBlockMix chain m).h = s.h := rfl
@[simp] theorem State.writeBlockMix_s2 (s : State) (chain : List Datapath) (m : Nat) : (s.writeBlockMix chain m).s2 = s.s2 := rfl
@[simp] theorem State.writeBlockMix_mask (s : State) (chain : List Datapath) (m : Nat) : (s.writeBlockMix chain m).mask = s.mask := rfl
@[simp] theorem State.writeBlockMix_out (s : State) (chain : List Datapath) (m : Nat) : (s.writeBlockMix chain m).out = s.out := rfl
@[simp] theorem State.writeBlockMix_buf (s : State) (chain : List Datapath) (m : Nat) : (s.writeBlockMix chain m).buf = Memory.store s.buf 0 (deinterleave (scratchY chain) m) := rfl
@[simp] theorem State.writeBlockMix_xy (s : State) (chain : List Datapath) (m : Nat) : (s.writeBlockMix chain m).xy = Memory.store s.xy 0 (scratchY chain).flatten := rfl
@[simp] theorem State.writeBlockMix_v (s : State) (chain : List Datapath) (m : Nat) : (s.writeBlockMix chain m).v = s.v := rfl
@[simp] theorem State.writeBlockMix_dp (s : State) (chain : List Datapath) (m : Nat) : (s.writeBlockMix chain m).dp = chain.getLast?.getD s.dp := rfl
@[simp] theorem State.writeBlockMix_resets (s : State) (chain : List Datapath) (m : Nat) : (s.writeBlockMix chain m).resets = s.resets := rfl
@[simp] theorem State.writeBlockMix_accepted (s : State) (chain : List Datapath) (m : Nat) : (s.writeBlockMix chain m).accepted = s.accepted := rfl
@[simp] theorem State.writeBlockMix_delay (s : State) (chain : List Datapath) (m : Nat) : (s.writeBlockMix chain m).delay = s.delay := rfl
@[simp] theorem State.writeBlockMix_pending (s : State) (chain : List Datapath) (m : Nat) : (s.writeBlockMix chain m).pending = s.pending := rfl
@[simp] theorem State.writeBlockMix_responses (s : State) (chain : List Datapath) (m : Nat) : (s.writeBlockMix chain m).responses = s.responses := rfl

/-! ## writeRomix -/

@[simp] theorem State.writeRomix_cfg (s : State) (m : Mixing) : (s.writeRomix m).cfg = s.cfg := rfl
@[simp] theorem State.writeRomix_status (s : State) (m : Mixing) : (s.writeRomix m).status = s.status := rfl
@[simp] theorem State.writeRomix_ieEn (s : State) (m : Mixing) : (s.writeRomix m).ieEn = s.ieEn := rfl
@[simp] theorem State.writeRomix_n (s : State) (m : Mixing) : (s.writeRomix m).n = s.n := rfl
@[simp] theorem State.writeRomix_r (s : State) (m : Mixing) : (s.writeRomix m).r = s.r := rfl
@[simp] theorem State.writeRomix_p (s : State) (m : Mixing) : (s.writeRomix m).p = s.p := rfl
@[simp] theorem State.writeRomix_mult (s : State) (m : Mixing) : (s.writeRomix m).mult = s.mult := rfl
@[simp] theorem State.writeRomix_diff (s : State) (m : Mixing) : (s.writeRomix m).diff = s.diff := rfl
@[simp] theorem State.writeRomix_tblidx (s : State) (m : Mixing) : (s.writeRomix m).tblidx = s.tblidx := rfl
@[simp] theorem State.writeRomix_k (s : State) (m : Mixing) : (s.writeRomix m).k = s.k := rfl
@[simp] theorem State.writeRomix_curw (s : State) (m : Mixing) : (s.writeRomix m).curw = s.curw := rfl
@[simp] theorem State.writeRomix_hdr (s : State) (m : Mixing) : (s.writeRomix m).hdr = s.hdr := rfl
@[simp] theorem State.writeRomix_sbuf (s : State) (m : Mixing) : (s.writeRomix m).sbuf = s.sbuf := rfl
@[simp] theorem State.writeRomix_h (s : State) (m : Mixing) : (s.writeRomix m).h = s.h := rfl
@[simp] theorem State.writeRomix_s2 (s : State) (m : Mixing) : (s.writeRomix m).s2 = s.s2 := rfl
@[simp] theorem State.writeRomix_mask (s : State) (m : Mixing) : (s.writeRomix m).mask = s.mask := rfl
@[simp] theorem State.writeRomix_out (s : State) (m : Mixing) : (s.writeRomix m).out = s.out := rfl
@[simp] theorem State.writeRomix_buf (s : State) (m : Mixing) : (s.writeRomix m).buf = Memory.store s.buf 0 m.x := rfl
@[simp] theorem State.writeRomix_xy (s : State) (m : Mixing) : (s.writeRomix m).xy = Memory.store s.xy 0 (m.x ++ (scratchY m.chain).flatten) := rfl
@[simp] theorem State.writeRomix_v (s : State) (m : Mixing) : (s.writeRomix m).v = m.v := rfl
@[simp] theorem State.writeRomix_dp (s : State) (m : Mixing) : (s.writeRomix m).dp = m.chain.getLast?.getD s.dp := rfl
@[simp] theorem State.writeRomix_resets (s : State) (m : Mixing) : (s.writeRomix m).resets = s.resets := rfl
@[simp] theorem State.writeRomix_accepted (s : State) (m : Mixing) : (s.writeRomix m).accepted = s.accepted := rfl
@[simp] theorem State.writeRomix_delay (s : State) (m : Mixing) : (s.writeRomix m).delay = s.delay := rfl
@[simp] theorem State.writeRomix_pending (s : State) (m : Mixing) : (s.writeRomix m).pending = s.pending := rfl
@[simp] theorem State.writeRomix_responses (s : State) (m : Mixing) : (s.writeRomix m).responses = s.responses := rfl

/-! ## zeroBuffers -/

@[simp] theorem State.zeroBuffers_cfg (s : State) : (s.zeroBuffers).cfg = s.cfg := rfl
@[simp] theorem State.zeroBuffers_status (s : State) : (s.zeroBuffers).status = s.status := rfl
@[simp] theorem State.zeroBuffers_ieEn (s : State) : (s.zeroBuffers).ieEn = s.ieEn := rfl
@[simp] theorem State.zeroBuffers_n (s : State) : (s.zeroBuffers).n = s.n := rfl
@[simp] theorem State.zeroBuffers_r (s : State) : (s.zeroBuffers).r = s.r := rfl
@[simp] theorem State.zeroBuffers_p (s : State) : (s.zeroBuffers).p = s.p := rfl
@[simp] theorem State.zeroBuffers_mult (s : State) : (s.zeroBuffers).mult = s.mult := rfl
@[simp] theorem State.zeroBuffers_diff (s : State) : (s.zeroBuffers).diff = s.diff := rfl
@[simp] theorem State.zeroBuffers_tblidx (s : State) : (s.zeroBuffers).tblidx = s.tblidx := rfl
@[simp] theorem State.zeroBuffers_k (s : State) : (s.zeroBuffers).k = 0 := rfl
@[simp] theorem State.zeroBuffers_curw (s : State) : (s.zeroBuffers).curw = s.curw := rfl
@[simp] theorem State.zeroBuffers_hdr (s : State) : (s.zeroBuffers).hdr = Vector.replicate 80 0 := rfl
@[simp] theorem State.zeroBuffers_sbuf (s : State) : (s.zeroBuffers).sbuf = Vector.replicate 80 0 := rfl
@[simp] theorem State.zeroBuffers_h (s : State) : (s.zeroBuffers).h = Vector.replicate 32 0 := rfl
@[simp] theorem State.zeroBuffers_s2 (s : State) : (s.zeroBuffers).s2 = Vector.replicate 32 0 := rfl
@[simp] theorem State.zeroBuffers_mask (s : State) : (s.zeroBuffers).mask = Vector.replicate 32 0 := rfl
@[simp] theorem State.zeroBuffers_out (s : State) : (s.zeroBuffers).out = Vector.replicate 32 0 := rfl
@[simp] theorem State.zeroBuffers_buf (s : State) : (s.zeroBuffers).buf = Memory.store s.buf 0 (List.replicate (128 * s.cfg.rMax) 0) := rfl
@[simp] theorem State.zeroBuffers_xy (s : State) : (s.zeroBuffers).xy = Memory.store s.xy 0 (List.replicate (256 * s.cfg.rMax) 0) := rfl
@[simp] theorem State.zeroBuffers_v (s : State) : (s.zeroBuffers).v = Memory.store s.v 0 (List.replicate s.cfg.vBytes 0) := rfl
@[simp] theorem State.zeroBuffers_dp (s : State) : (s.zeroBuffers).dp = Datapath.zero := rfl
@[simp] theorem State.zeroBuffers_resets (s : State) : (s.zeroBuffers).resets = s.resets := rfl
@[simp] theorem State.zeroBuffers_accepted (s : State) : (s.zeroBuffers).accepted = s.accepted := rfl
@[simp] theorem State.zeroBuffers_delay (s : State) : (s.zeroBuffers).delay = s.delay := rfl
@[simp] theorem State.zeroBuffers_pending (s : State) : (s.zeroBuffers).pending = s.pending := rfl
@[simp] theorem State.zeroBuffers_responses (s : State) : (s.zeroBuffers).responses = s.responses := rfl

/-! ## applyReset -/

@[simp] theorem State.applyReset_cfg (s : State) : (s.applyReset).cfg = s.cfg := rfl
@[simp] theorem State.applyReset_status (s : State) : (s.applyReset).status = (State.resetOf s.cfg (s.resets + 1)).status := rfl
@[simp] theorem State.applyReset_ieEn (s : State) : (s.applyReset).ieEn = (State.resetOf s.cfg (s.resets + 1)).ieEn := rfl
@[simp] theorem State.applyReset_n (s : State) : (s.applyReset).n = (State.resetOf s.cfg (s.resets + 1)).n := rfl
@[simp] theorem State.applyReset_r (s : State) : (s.applyReset).r = (State.resetOf s.cfg (s.resets + 1)).r := rfl
@[simp] theorem State.applyReset_p (s : State) : (s.applyReset).p = (State.resetOf s.cfg (s.resets + 1)).p := rfl
@[simp] theorem State.applyReset_mult (s : State) : (s.applyReset).mult = (State.resetOf s.cfg (s.resets + 1)).mult := rfl
@[simp] theorem State.applyReset_diff (s : State) : (s.applyReset).diff = (State.resetOf s.cfg (s.resets + 1)).diff := rfl
@[simp] theorem State.applyReset_tblidx (s : State) : (s.applyReset).tblidx = (State.resetOf s.cfg (s.resets + 1)).tblidx := rfl
@[simp] theorem State.applyReset_k (s : State) : (s.applyReset).k = (State.resetOf s.cfg (s.resets + 1)).k := rfl
@[simp] theorem State.applyReset_curw (s : State) : (s.applyReset).curw = (State.resetOf s.cfg (s.resets + 1)).curw := rfl
@[simp] theorem State.applyReset_hdr (s : State) : (s.applyReset).hdr = (State.resetOf s.cfg (s.resets + 1)).hdr := rfl
@[simp] theorem State.applyReset_sbuf (s : State) : (s.applyReset).sbuf = (State.resetOf s.cfg (s.resets + 1)).sbuf := rfl
@[simp] theorem State.applyReset_h (s : State) : (s.applyReset).h = (State.resetOf s.cfg (s.resets + 1)).h := rfl
@[simp] theorem State.applyReset_s2 (s : State) : (s.applyReset).s2 = (State.resetOf s.cfg (s.resets + 1)).s2 := rfl
@[simp] theorem State.applyReset_mask (s : State) : (s.applyReset).mask = (State.resetOf s.cfg (s.resets + 1)).mask := rfl
@[simp] theorem State.applyReset_out (s : State) : (s.applyReset).out = (State.resetOf s.cfg (s.resets + 1)).out := rfl
@[simp] theorem State.applyReset_buf (s : State) : (s.applyReset).buf = (State.resetOf s.cfg (s.resets + 1)).buf := rfl
@[simp] theorem State.applyReset_xy (s : State) : (s.applyReset).xy = (State.resetOf s.cfg (s.resets + 1)).xy := rfl
@[simp] theorem State.applyReset_v (s : State) : (s.applyReset).v = (State.resetOf s.cfg (s.resets + 1)).v := rfl
@[simp] theorem State.applyReset_dp (s : State) : (s.applyReset).dp = (State.resetOf s.cfg (s.resets + 1)).dp := rfl
@[simp] theorem State.applyReset_resets (s : State) : (s.applyReset).resets = s.resets + 1 := rfl
@[simp] theorem State.applyReset_accepted (s : State) : (s.applyReset).accepted = s.accepted := rfl
@[simp] theorem State.applyReset_delay (s : State) : (s.applyReset).delay = (State.resetOf s.cfg (s.resets + 1)).delay := rfl
@[simp] theorem State.applyReset_pending (s : State) : (s.applyReset).pending = s.pending := rfl
@[simp] theorem State.applyReset_responses (s : State) : (s.applyReset).responses = s.responses := rfl

/-! ## reset -/

@[simp] theorem State.resetOf_cfg (c : Config) (j : Nat) : (State.resetOf c j).cfg = c := rfl
@[simp] theorem State.resetOf_status (c : Config) (j : Nat) : (State.resetOf c j).status = ⟨false, false, none, 0⟩ := rfl
@[simp] theorem State.resetOf_ieEn (c : Config) (j : Nat) : (State.resetOf c j).ieEn = false := rfl
@[simp] theorem State.resetOf_n (c : Config) (j : Nat) : (State.resetOf c j).n = 0 := rfl
@[simp] theorem State.resetOf_r (c : Config) (j : Nat) : (State.resetOf c j).r = 0 := rfl
@[simp] theorem State.resetOf_p (c : Config) (j : Nat) : (State.resetOf c j).p = 0 := rfl
@[simp] theorem State.resetOf_mult (c : Config) (j : Nat) : (State.resetOf c j).mult = 0 := rfl
@[simp] theorem State.resetOf_diff (c : Config) (j : Nat) : (State.resetOf c j).diff = 0 := rfl
@[simp] theorem State.resetOf_tblidx (c : Config) (j : Nat) : (State.resetOf c j).tblidx = 0 := rfl
@[simp] theorem State.resetOf_k (c : Config) (j : Nat) : (State.resetOf c j).k = 0 := rfl
@[simp] theorem State.resetOf_curw (c : Config) (j : Nat) : (State.resetOf c j).curw = 0 := rfl
@[simp] theorem State.resetOf_hdr (c : Config) (j : Nat) : (State.resetOf c j).hdr = Vector.replicate 80 0 := rfl
@[simp] theorem State.resetOf_sbuf (c : Config) (j : Nat) : (State.resetOf c j).sbuf = Vector.replicate 80 0 := rfl
@[simp] theorem State.resetOf_h (c : Config) (j : Nat) : (State.resetOf c j).h = Vector.replicate 32 0 := rfl
@[simp] theorem State.resetOf_s2 (c : Config) (j : Nat) : (State.resetOf c j).s2 = Vector.replicate 32 0 := rfl
@[simp] theorem State.resetOf_mask (c : Config) (j : Nat) : (State.resetOf c j).mask = Vector.replicate 32 0 := rfl
@[simp] theorem State.resetOf_out (c : Config) (j : Nat) : (State.resetOf c j).out = Vector.replicate 32 0 := rfl
@[simp] theorem State.resetOf_buf (c : Config) (j : Nat) : (State.resetOf c j).buf = [] := rfl
@[simp] theorem State.resetOf_xy (c : Config) (j : Nat) : (State.resetOf c j).xy = [] := rfl
@[simp] theorem State.resetOf_v (c : Config) (j : Nat) : (State.resetOf c j).v = [] := rfl
@[simp] theorem State.resetOf_dp (c : Config) (j : Nat) : (State.resetOf c j).dp = Datapath.afterReset j := rfl
@[simp] theorem State.resetOf_resets (c : Config) (j : Nat) : (State.resetOf c j).resets = j := rfl
@[simp] theorem State.resetOf_accepted (c : Config) (j : Nat) : (State.resetOf c j).accepted = 0 := rfl
@[simp] theorem State.resetOf_delay (c : Config) (j : Nat) : (State.resetOf c j).delay = 0 := rfl
@[simp] theorem State.resetOf_pending (c : Config) (j : Nat) : (State.resetOf c j).pending = [] := rfl
@[simp] theorem State.resetOf_responses (c : Config) (j : Nat) : (State.resetOf c j).responses = [] := rfl

/-! ## STATUS -/

@[simp] theorem Status.completed_busy (st : Status) : st.completed.busy = false := rfl
@[simp] theorem Status.completed_done (st : Status) : st.completed.done = true := rfl
@[simp] theorem Status.completed_error (st : Status) : st.completed.error = st.error := rfl
@[simp] theorem Status.completed_op (st : Status) : st.completed.op = st.op := rfl
@[simp] theorem Status.failed_busy (st : Status) (c : ErrorCode) : (st.failed c).busy = false := rfl
@[simp] theorem Status.failed_done (st : Status) (c : ErrorCode) : (st.failed c).done = st.done := rfl
@[simp] theorem Status.failed_error (st : Status) (c : ErrorCode) : (st.failed c).error = some c := rfl
@[simp] theorem Status.failed_op (st : Status) (c : ErrorCode) : (st.failed c).op = st.op := rfl
@[simp] theorem Status.accepting_busy (st : Status) (w : Word) : (st.accepting w).busy = true := rfl
@[simp] theorem Status.accepting_done (st : Status) (w : Word) : (st.accepting w).done = false := rfl
@[simp] theorem Status.accepting_error (st : Status) (w : Word) : (st.accepting w).error = st.error := rfl
@[simp] theorem Status.accepting_op (st : Status) (w : Word) : (st.accepting w).op = opField w := rfl
@[simp] theorem Status.acknowledge_busy (st : Status) (v : Word) : (st.acknowledge v).busy = st.busy := rfl
@[simp] theorem Status.acknowledge_op (st : Status) (v : Word) : (st.acknowledge v).op = st.op := rfl
@[simp] theorem Status.acknowledge_done (st : Status) (v : Word) :
    (st.acknowledge v).done = if v.getLsbD 1 then false else st.done := rfl
@[simp] theorem Status.acknowledge_error (st : Status) (v : Word) :
    (st.acknowledge v).error = if v.getLsbD 2 then none else st.error := rfl

/-! ## A host write of a window word: only the window it names changes -/

@[simp] theorem State.writeWindow_cfg (s : State) (name : WindowName) (t : Nat) (w : Word) :
    (s.writeWindow name t w).cfg = s.cfg := by unfold State.writeWindow; split <;> rfl
@[simp] theorem State.writeWindow_status (s : State) (name : WindowName) (t : Nat) (w : Word) :
    (s.writeWindow name t w).status = s.status := by unfold State.writeWindow; split <;> rfl
@[simp] theorem State.writeWindow_ieEn (s : State) (name : WindowName) (t : Nat) (w : Word) :
    (s.writeWindow name t w).ieEn = s.ieEn := by unfold State.writeWindow; split <;> rfl
@[simp] theorem State.writeWindow_n (s : State) (name : WindowName) (t : Nat) (w : Word) :
    (s.writeWindow name t w).n = s.n := by unfold State.writeWindow; split <;> rfl
@[simp] theorem State.writeWindow_r (s : State) (name : WindowName) (t : Nat) (w : Word) :
    (s.writeWindow name t w).r = s.r := by unfold State.writeWindow; split <;> rfl
@[simp] theorem State.writeWindow_p (s : State) (name : WindowName) (t : Nat) (w : Word) :
    (s.writeWindow name t w).p = s.p := by unfold State.writeWindow; split <;> rfl
@[simp] theorem State.writeWindow_mult (s : State) (name : WindowName) (t : Nat) (w : Word) :
    (s.writeWindow name t w).mult = s.mult := by unfold State.writeWindow; split <;> rfl
@[simp] theorem State.writeWindow_diff (s : State) (name : WindowName) (t : Nat) (w : Word) :
    (s.writeWindow name t w).diff = s.diff := by unfold State.writeWindow; split <;> rfl
@[simp] theorem State.writeWindow_tblidx (s : State) (name : WindowName) (t : Nat) (w : Word) :
    (s.writeWindow name t w).tblidx = s.tblidx := by unfold State.writeWindow; split <;> rfl
@[simp] theorem State.writeWindow_k (s : State) (name : WindowName) (t : Nat) (w : Word) :
    (s.writeWindow name t w).k = s.k := by unfold State.writeWindow; split <;> rfl
@[simp] theorem State.writeWindow_curw (s : State) (name : WindowName) (t : Nat) (w : Word) :
    (s.writeWindow name t w).curw = s.curw := by unfold State.writeWindow; split <;> rfl
@[simp] theorem State.writeWindow_mask (s : State) (name : WindowName) (t : Nat) (w : Word) :
    (s.writeWindow name t w).mask = s.mask := by unfold State.writeWindow; split <;> rfl
@[simp] theorem State.writeWindow_out (s : State) (name : WindowName) (t : Nat) (w : Word) :
    (s.writeWindow name t w).out = s.out := by unfold State.writeWindow; split <;> rfl
@[simp] theorem State.writeWindow_xy (s : State) (name : WindowName) (t : Nat) (w : Word) :
    (s.writeWindow name t w).xy = s.xy := by unfold State.writeWindow; split <;> rfl
@[simp] theorem State.writeWindow_v (s : State) (name : WindowName) (t : Nat) (w : Word) :
    (s.writeWindow name t w).v = s.v := by unfold State.writeWindow; split <;> rfl
@[simp] theorem State.writeWindow_dp (s : State) (name : WindowName) (t : Nat) (w : Word) :
    (s.writeWindow name t w).dp = s.dp := by unfold State.writeWindow; split <;> rfl
@[simp] theorem State.writeWindow_resets (s : State) (name : WindowName) (t : Nat) (w : Word) :
    (s.writeWindow name t w).resets = s.resets := by unfold State.writeWindow; split <;> rfl
@[simp] theorem State.writeWindow_accepted (s : State) (name : WindowName) (t : Nat) (w : Word) :
    (s.writeWindow name t w).accepted = s.accepted := by unfold State.writeWindow; split <;> rfl
@[simp] theorem State.writeWindow_delay (s : State) (name : WindowName) (t : Nat) (w : Word) :
    (s.writeWindow name t w).delay = s.delay := by unfold State.writeWindow; split <;> rfl
@[simp] theorem State.writeWindow_pending (s : State) (name : WindowName) (t : Nat) (w : Word) :
    (s.writeWindow name t w).pending = s.pending := by unfold State.writeWindow; split <;> rfl
@[simp] theorem State.writeWindow_responses (s : State) (name : WindowName) (t : Nat) (w : Word) :
    (s.writeWindow name t w).responses = s.responses := by unfold State.writeWindow; split <;> rfl

theorem State.writeWindow_buf_eq (s : State) (t : Nat) (w : Word) : s.writeWindow .buf t w = s.storeBuf t (le32enc w) := rfl

/-- Every other window leaves BUF alone. -/
theorem State.writeWindow_buf (s : State) (name : WindowName) (t : Nat) (w : Word) (h : name ≠ .buf) :
    (s.writeWindow name t w).buf = s.buf := by
  unfold State.writeWindow
  split <;> first | rfl | exact absurd rfl h

/-! ## Issue (R91) -/

/-- A command is dropped while ERROR = 1. -/
theorem State.issue_dropped {s : State} {c : ErrorCode} (h : s.status.error = some c) (w : Word) : s.issue w = s := by
  unfold State.issue; rw [h]

/-- A command is accepted while ERROR = 0. -/
theorem State.issue_accepted {s : State} (h : s.status.error = none) (w : Word) :
    s.issue w = { s with
      status := s.status.accepting w, curw := w, delay := Config.completionDelay s.accepted,
      accepted := s.accepted + 1 } := by
  unfold State.issue; rw [h]

end Sys2Proof.Machine
end

