-- ==== Sys2Proof/Laws/Blocks.lean ====
section
/-! SUPPORT. Lengths of byte blocks, and BUF, XY and V byte by byte. -/

namespace Sys2Proof.Machine

open Sys2Proof

/-! ## Lengths -/

@[simp] theorem length_le32enc (w : Word) : (le32enc w).length = 4 := rfl

@[simp] theorem length_blkxor (a b : List Byte) : (blkxor a b).length = min a.length b.length := by
  simp [blkxor]

@[simp] theorem length_output (d : Datapath) : d.output.length = 64 := by
  simp [Datapath.output, List.length_flatMap]

@[simp] theorem length_salsa208 (b : List Byte) : (salsa208 b).length = 64 := length_output _

@[simp] theorem length_mixChain (x : List Byte) (bs : List (List Byte)) : (mixChain x bs).length = bs.length := by
  induction bs generalizing x with
  | nil => rfl
  | cons b bs ih => simp [mixChain, ih]

@[simp] theorem length_blockMixChain (b : List Byte) (r : Nat) : (blockMixChain b r).length = 2 * r := by
  simp [blockMixChain]

@[simp] theorem length_scratchY (chain : List Datapath) : (scratchY chain).length = chain.length := by
  simp [scratchY]

/-- Every sub-block of the scratch Y of a chain has 64 bytes. -/
theorem length_getD_scratchY (chain : List Datapath) (i : Nat) (h : i < chain.length) :
    ((scratchY chain).getD i []).length = 64 := by
  simp [scratchY, h]

@[simp] theorem length_scratchY_flatten (chain : List Datapath) : (scratchY chain).flatten.length = 64 * chain.length := by
  induction chain with
  | nil => rfl
  | cons d chain ih => simp only [scratchY, List.map_cons, List.flatten_cons, List.length_append] at *; simp [ih]; omega

theorem length_deinterleave (chain : List Datapath) (r : Nat) (h : chain.length = 2 * r) :
    (deinterleave (scratchY chain) r).length = 128 * r := by
  have sum64 : ∀ (f : Nat → List Byte), (∀ t < r, (f t).length = 64) → ((List.range r).flatMap f).length = 64 * r := by
    intro f hf
    rw [List.length_flatMap, List.map_congr_left (g := fun _ => 64) (by intro t ht; exact hf t (List.mem_range.mp ht))]
    simp [Nat.mul_comm]
  unfold deinterleave
  rw [List.length_append, sum64 _ (fun t ht => length_getD_scratchY chain _ (by omega)),
    sum64 _ (fun t ht => length_getD_scratchY chain _ (by omega))]
  omega

/-! ## BUF, XY and V as bytes -/

theorem State.loadBuf_eq (s : State) (n : Nat) : s.loadBuf n = (List.range n).map s.bufByte := by
  simp [State.loadBuf, Memory.load_eq, State.bufByte]

@[simp] theorem State.length_loadBuf (s : State) (n : Nat) : (s.loadBuf n).length = n := by
  simp [State.loadBuf]

/-- Every byte of BUF after a store. -/
theorem State.bufByte_storeBuf (s : State) (a : Nat) (bytes : List Byte) (x : Nat) :
    (s.storeBuf a bytes).bufByte x =
      if a ≤ x ∧ x < a + bytes.length then bytes.getD (x - a) 0 else s.bufByte x :=
  Memory.byte_store _ _ _ _ _

/-- Every byte of XY after a store. -/
theorem State.xyByte_storeXy (s : State) (a : Nat) (bytes : List Byte) (x : Nat) :
    (s.storeXy a bytes).xyByte x =
      if a ≤ x ∧ x < a + bytes.length then bytes.getD (x - a) 0 else s.xyByte x :=
  Memory.byte_store _ _ _ _ _

/-- BUF depends on the memory and on how many resets came before, and on nothing else. -/
theorem State.bufByte_congr {s t : State} (h : t.buf = s.buf) (h' : t.resets = s.resets) (a : Nat) :
    t.bufByte a = s.bufByte a := by
  have hf : t.fresh .buf = s.fresh .buf := by unfold State.fresh; rw [h']
  rw [State.bufByte, State.bufByte, hf, h]

/-- XY depends on the memory and on how many resets came before, and on nothing else. -/
theorem State.xyByte_congr {s t : State} (h : t.xy = s.xy) (h' : t.resets = s.resets) (a : Nat) :
    t.xyByte a = s.xyByte a := by
  have hf : t.fresh .xy = s.fresh .xy := by unfold State.fresh; rw [h']
  rw [State.xyByte, State.xyByte, hf, h]

/-- V depends on the memory and on how many resets came before, and on nothing else. -/
theorem State.vByte_congr {s t : State} (h : t.v = s.v) (h' : t.resets = s.resets) (a : Nat) :
    t.vByte a = s.vByte a := by
  have hf : t.fresh .v = s.fresh .v := by unfold State.fresh; rw [h']
  rw [State.vByte, State.vByte, hf, h]

/-! ## What BMIX writes, byte by byte -/

/-- BUF after BMIX: the de-interleaved block, then what stood there. -/
theorem State.bufByte_writeBlockMix (s : State) (chain : List Datapath) (r : Nat) (h : chain.length = 2 * r) (a : Nat) :
    (s.writeBlockMix chain r).bufByte a =
      if a < 128 * r then (deinterleave (scratchY chain) r).getD a 0 else s.bufByte a := by
  rw [State.bufByte_congr (s := s.storeBuf 0 (deinterleave (scratchY chain) r)) (t := s.writeBlockMix chain r) rfl rfl,
    State.bufByte_storeBuf, length_deinterleave chain r h]
  simp

/-- XY after BMIX: the scratch Y, then what stood there. -/
theorem State.xyByte_writeBlockMix (s : State) (chain : List Datapath) (r : Nat) (a : Nat) :
    (s.writeBlockMix chain r).xyByte a =
      if a < 64 * chain.length then (scratchY chain).flatten.getD a 0 else s.xyByte a := by
  rw [State.xyByte_congr (s := s.storeXy 0 (scratchY chain).flatten) (t := s.writeBlockMix chain r) rfl rfl,
    State.xyByte_storeXy, length_scratchY_flatten]
  simp

end Sys2Proof.Machine
end

