-- ==== Sys2Proof/Laws/Step.lean ====
section
/-! SUPPORT. What one completion step and one step of the machine can do, said once. -/

namespace Sys2Proof.Machine

open Sys2Proof

/-- The fields that belong to the host and to the issue of commands; no completion step changes them. -/
structure State.SameHostSide (s t : State) : Prop where
  cfg : t.cfg = s.cfg
  ieEn : t.ieEn = s.ieEn
  diff : t.diff = s.diff
  curw : t.curw = s.curw
  resets : t.resets = s.resets
  accepted : t.accepted = s.accepted
  delay : t.delay = s.delay
  pending : t.pending = s.pending
  responses : t.responses = s.responses

theorem State.sameHostSide_writeBlockMix (s : State) (chain : List Datapath) (r : Nat) :
    s.SameHostSide (s.writeBlockMix chain r) := by constructor <;> simp

theorem State.sameHostSide_writeRomix (s : State) (m : Mixing) : s.SameHostSide (s.writeRomix m) := by
  constructor <;> simp

/-- RCheck answers one of two codes (R146). -/
theorem rCheck_code {c : Config} {r : Nat} {e : ErrorCode} (h : rCheck c r = .error e) : e ≠ .outputTooLarge := by
  rintro rfl
  unfold rCheck at h
  split_ifs at h <;> cases h

/-- ParamCheck answers one of two codes (R157). -/
theorem paramCheck_code {c : Config} {n r p : Nat} {e : ErrorCode} (h : paramCheck c n r p = .error e) :
    e ≠ .outputTooLarge := by
  rintro rfl
  unfold paramCheck at h
  split_ifs at h <;> cases h

/-- The state a completion step ends in: an error that changes nothing but STATUS, or the command's own effect `u`, which
leaves STATUS and the host's side alone, and then its completion. -/
theorem exec_next {i : Instr} {s t : State} (h : exec i s = .next t) :
    (∃ c, c ≠ .outputTooLarge ∧ t = s.raiseError c) ∨ ∃ u : State, t = u.finish ∧ u.status = s.status ∧ s.SameHostSide u := by
  cases i with
  | salsa =>
    change execSalsa s = _ at h; unfold execSalsa at h; injection h with h; subst h
    exact .inr ⟨_, rfl, rfl, rfl, rfl, rfl, rfl, rfl, rfl, rfl, rfl, rfl⟩
  | bmix =>
    change execBmix s = _ at h; unfold execBmix at h; injection h with h; subst h
    split
    case h_1 e he => exact .inl ⟨e, rCheck_code he, rfl⟩
    case h_2 => exact .inr ⟨s.writeBlockMix _ _, rfl, by simp, s.sameHostSide_writeBlockMix _ _⟩
  | romix =>
    change execRomix s = _ at h; unfold execRomix at h; injection h with h; subst h
    split
    case h_1 e he => exact .inl ⟨e, paramCheck_code he, rfl⟩
    case h_2 => exact .inr ⟨s.writeRomix _, rfl, by simp, s.sameHostSide_writeRomix _⟩
  | pchk =>
    change execPchk s = _ at h; unfold execPchk at h; injection h with h; subst h
    split
    case h_1 e he => exact .inl ⟨e, paramCheck_code he, rfl⟩
    case h_2 => exact .inr ⟨_, rfl, rfl, rfl, rfl, rfl, rfl, rfl, rfl, rfl, rfl, rfl⟩
  | hsel =>
    change execHsel s = _ at h; unfold execHsel at h; injection h with h; subst h
    split
    · exact .inl ⟨_, by decide, rfl⟩
    next row hrow =>
      by_cases hm : 1024 * row.multiplier.toNat ≥ 2 ^ 32
      · rw [if_pos hm]; exact .inl ⟨_, by decide, rfl⟩
      · rw [if_neg hm]
        exact .inr ⟨s.selectRow _ row, rfl, by simp, by simp, by simp, by simp, by simp, by simp, by simp, by simp, by simp,
          by simp⟩
  | hxor =>
    change execHxor s = _ at h; unfold execHxor at h; injection h with h; subst h
    exact .inr ⟨_, rfl, rfl, rfl, rfl, rfl, rfl, rfl, rfl, rfl, rfl, rfl⟩
  | hmask =>
    change execHmask s = _ at h; unfold execHmask at h; injection h with h; subst h
    exact .inr ⟨_, rfl, rfl, rfl, rfl, rfl, rfl, rfl, rfl, rfl, rfl, rfl⟩
  | hcomb =>
    change execHcomb s = _ at h; unfold execHcomb at h; injection h with h; subst h
    exact .inr ⟨_, rfl, rfl, rfl, rfl, rfl, rfl, rfl, rfl, rfl, rfl, rfl⟩
  | wipe =>
    change execWipe s = _ at h; unfold execWipe at h; injection h with h; subst h
    exact .inr ⟨_, rfl, rfl, rfl, rfl, rfl, rfl, rfl, rfl, rfl, rfl, rfl⟩

/-- The three things one step can be. -/
theorem step_eq (s : State) :
    (s.turn = .sequencer ∧ step s = completion s) ∨
    (∃ e rest, s.pending = e :: rest ∧ s.turn = .host e rest ∧ step s = .next (s.hostStep e rest)) ∨
    (s.turn = .idle ∧ s.status.busy = false ∧ s.pending = [] ∧ step s = .next s) := by
  unfold step State.turn
  cases hb : s.status.busy <;> cases hp : s.pending with
  | nil => simp
  | cons e rest =>
    by_cases ha : atOnce s.cfg e = true <;> by_cases hd : 0 < s.delay <;> simp [ha, hd]

/-- The sequencer moves exactly when a command is in flight and nothing of the host comes before its completion step. -/
theorem turn_sequencer_iff (s : State) : s.turn = .sequencer ↔ s.sequencerMoves := by
  unfold State.turn State.sequencerMoves
  cases hb : s.status.busy <;> cases hp : s.pending with
  | nil => simp
  | cons e rest => by_cases ha : atOnce s.cfg e = true <;> by_cases hd : s.delay = 0 <;> simp [ha, hd, Nat.pos_iff_ne_zero]

/-- The host's next event is performed exactly when it moves. -/
theorem turn_host_iff (s : State) (e : HostEvent) (rest : List HostEvent) :
    s.turn = .host e rest ↔ s.pending = e :: rest ∧ s.hostMoves e := by
  unfold State.turn State.hostMoves
  cases hb : s.status.busy <;> cases hp : s.pending with
  | nil => simp
  | cons e' rest' =>
    simp
    try (constructor <;> grind)

/-- A performed event of the host is the whole step. -/
theorem step_of_hostMoves {s : State} {e : HostEvent} {rest : List HostEvent} (hp : s.pending = e :: rest)
    (hm : s.hostMoves e) : step s = .next (s.hostStep e rest) := by
  have := (turn_host_iff s e rest).mpr ⟨hp, hm⟩
  simp [step, this]

end Sys2Proof.Machine
end

