-- ==== Sys2Proof/Laws/Bus.lean ====
section
/-! SUPPORT. The map of R24 range by range, and one access of the host on an idle block. -/

namespace Sys2Proof.Machine

open Sys2Proof

theorem place_hdr (c : Config) (t : Nat) (h : t < 80) : place c (0x040 + t) = .window .hdr t := by
  unfold place
  repeat rw [if_neg (by omega)]
  rw [if_pos (by omega), Nat.add_sub_cancel_left]

theorem place_s (c : Config) (t : Nat) (h : t < 80) : place c (0x090 + t) = .window .s t := by
  unfold place
  repeat rw [if_neg (by omega)]
  rw [if_pos (by omega), Nat.add_sub_cancel_left]

theorem place_h (c : Config) (t : Nat) (h : t < 32) : place c (0x0E0 + t) = .window .h t := by
  unfold place
  repeat rw [if_neg (by omega)]
  rw [if_pos (by omega), Nat.add_sub_cancel_left]

theorem place_s2 (c : Config) (t : Nat) (h : t < 32) : place c (0x100 + t) = .window .s2 t := by
  unfold place
  repeat rw [if_neg (by omega)]
  rw [if_pos (by omega), Nat.add_sub_cancel_left]

theorem place_mask (c : Config) (t : Nat) (h : t < 32) : place c (0x120 + t) = .window .mask t := by
  unfold place
  repeat rw [if_neg (by omega)]
  rw [if_pos (by omega), Nat.add_sub_cancel_left]

theorem place_out (c : Config) (t : Nat) (h : t < 32) : place c (0x140 + t) = .window .out t := by
  unfold place
  repeat rw [if_neg (by omega)]
  rw [if_pos (by omega), Nat.add_sub_cancel_left]

theorem place_buf (c : Config) (t : Nat) (h : t < 128 * c.rMax) : place c (0x1000 + t) = .window .buf t := by
  unfold place
  repeat rw [if_neg (by omega)]
  rw [if_pos (by omega), Nat.add_sub_cancel_left]

theorem place_reserved (c : Config) (off : Nat) (h : 0x028 ≤ off ∧ off < 0x040 ∨ 0x160 ≤ off ∧ off < 0x1000) :
    place c off = .reserved := by
  unfold place
  rcases h with h | h
  all_goals
    repeat rw [if_neg (by omega)]
    rw [if_pos (by omega)]

theorem place_unmapped (c : Config) (off : Nat) (h : 0x1000 + 128 * c.rMax ≤ off) : place c off = .unmapped := by
  unfold place
  repeat rw [if_neg (by omega)]

/-- A register stands at its own offset. -/
theorem place_reg (c : Config) (name : RegName) : place c name.offset = .reg name := by
  cases name <;> rfl

/-- An aligned 32-bit access from BASE up reaches what stands at its offset. -/
theorem accessPlace_base (c : Config) (off : Nat) (h : off % 4 = 0) : accessPlace c 32 (c.base + off) = place c off := by
  rw [accessPlace, if_neg (by omega), if_neg (by omega), Nat.add_sub_cancel_left, if_neg (by omega)]

/-- An access of another width, misaligned, or past the map reaches nothing (R64). -/
theorem accessPlace_unmapped (c : Config) (width off : Nat)
    (h : width ≠ 32 ∨ off % 4 ≠ 0 ∨ 0x1000 + 128 * c.rMax ≤ off) : accessPlace c width (c.base + off) = .unmapped := by
  unfold accessPlace
  rw [if_neg (by omega), Nat.add_sub_cancel_left]
  by_cases hw : width ≠ 32
  · rw [if_pos hw]
  · by_cases ha : off % 4 ≠ 0
    · rw [if_neg hw, if_pos ha]
    · rw [if_neg hw, if_neg ha, place_unmapped _ _ (by omega)]

/-- While BUSY = 0 a read of the host only takes the event and answers. -/
theorem step_read {s : State} {width addr : Nat} {rest : List HostEvent} (hb : s.status.busy = false)
    (hp : s.pending = .read width addr :: rest) :
    step s = .next { s with
      pending := rest, responses := s.readPlace (accessPlace s.cfg width addr) :: s.responses } := by
  rw [step_of_hostMoves hp (.inl hb)]
  simp only [State.hostStep, State.take, hb, State.respond]
  rfl

/-- While BUSY = 0 a write of the host is the write of the place it reaches. -/
theorem step_write {s : State} {off : Nat} {v : Word} {rest : List HostEvent} (hb : s.status.busy = false)
    (h4 : off % 4 = 0) (hp : s.pending = .write 32 (s.cfg.base + off) v :: rest) :
    step s = .next ((State.writePlace { s with pending := rest } (place s.cfg off) v).respond
      (writeAnswer (place s.cfg off))) := by
  rw [step_of_hostMoves hp (.inl hb)]
  simp only [State.hostStep, State.take, hb, accessPlace_base _ _ h4]
  rfl

/-- One more step of a run. -/
theorem run_succ {s t : State} (h : step s = .next t) (k : Nat) :
    Host.Core.run Sys2Proof.core (k + 1) s = Host.Core.run Sys2Proof.core k t := by
  have general : ∀ (M : Host.Core) (a b : M.State), M.step a = .next b → M.run (k + 1) a = M.run k b := by
    intro M a b hab
    simp only [Host.Core.run, hab]
  exact general Sys2Proof.core s t h

/-- Every command ends in a next state. -/
theorem exec_is_next (i : Instr) (s : State) : ∃ t, exec i s = .next t := by
  cases i <;> exact ⟨_, rfl⟩

/-- Every completion step ends in a next state. -/
theorem completion_is_next (s : State) : ∃ t, completion s = .next t := by
  unfold completion
  split
  · exact exec_is_next _ _
  · exact ⟨_, rfl⟩

end Sys2Proof.Machine
end

