-- ==== Sys2Proof/Laws/Config.lean ====
section
/-! SUPPORT. The parameters of R7 that are functions, held as exceptions to the decided rule: every function is one. -/

namespace Sys2Proof.Machine

open Sys2Proof

/-- A list that names every argument looked at, with the function's value there, is the function on these arguments. -/
theorem lookup_graph {α β : Type} [BEq α] [LawfulBEq α] (f : α → β) (args : List α) (a : α) (h : a ∈ args) :
    (args.map fun x => (x, f x)).lookup a = some (f a) := by
  induction args with
  | nil => cases h
  | cons b args ih =>
    by_cases hab : a = b
    · subst hab; simp
    · rw [List.map_cons, List.lookup_cons, beq_false_of_ne hab]
      exact ih ((List.mem_cons.mp h).resolve_left hab)

/-- Over a finite type every function is such a list. -/
theorem exists_graph {α β : Type} [BEq α] [LawfulBEq α] [Finite α] (f : α → β) :
    ∃ l : List (α × β), ∀ a, l.lookup a = some (f a) := by
  have := Fintype.ofFinite α
  exact ⟨_, fun a => lookup_graph f Finset.univ.toList a (by simp)⟩

/-- Every `SizeExp` is a list of exceptions. -/
theorem exists_sizeExp (c : Config) (f : Word → Nat) : ∃ l, ∀ d, sizeExp { c with sizeExceptions := l } d = f d := by
  have : Finite Word := Finite.of_injective BitVec.toFin (fun _ _ h => BitVec.eq_of_toNat_eq (congrArg Fin.val h))
  obtain ⟨l, hl⟩ := exists_graph f
  exact ⟨l, fun d => by simp [sizeExp, hl]⟩

/-- Every `IOFF`, at the r that the buffers can hold, is a list of exceptions. -/
theorem exists_ioff (c : Config) (f : Nat → Nat) :
    ∃ l, ∀ r, r ≤ c.rMax → ioff { c with ioffExceptions := l } r = f r :=
  ⟨(List.range (c.rMax + 1)).map fun x => (x, f x), fun r hr => by
    simp [ioff, lookup_graph f (List.range (c.rMax + 1)) r (List.mem_range.mpr (by omega))]⟩

/-- Every `MaskOf` is a list of exceptions. -/
theorem exists_maskOf (c : Config) (f : Vector Byte 32 → Fin 257 × Vector Byte 32) :
    ∃ l, ∀ x, maskOf { c with maskExceptions := l } x = (BitVec.ofNat 9 (f x).1.val, (f x).2) := by
  have hb : Finite Byte := Finite.of_injective BitVec.toFin (fun _ _ h => BitVec.eq_of_toNat_eq (congrArg Fin.val h))
  have : Finite (Vector Byte 32) := Finite.of_injective (fun (x : Vector Byte 32) (i : Fin 32) => x[i]) (by
    intro x y h
    apply Vector.ext
    intro i hi
    exact congrFun h ⟨i, hi⟩)
  obtain ⟨l, hl⟩ := exists_graph f
  exact ⟨l, fun x => by simp [maskOf, hl]⟩

end Sys2Proof.Machine
end

