-- ==== Sys2Proof/Laws/PerInstr.lean ====
section
/-! SUPPORT. The family "ReservedBitsZero": the match word of every command has its reserved bits 31:8 clear (R90, R93). -/

namespace Sys2Proof.Laws.ReservedBitsZero

open Sys2Proof

/-- The encoded command fits in the byte `op`: the field `rsv` is 0. -/
def Statement (i : Instr) : Prop := rsvField (encode i) = 0 ∧ i.wf = true

theorem salsa : Statement .salsa := by unfold Statement; decide
theorem bmix : Statement .bmix := by unfold Statement; decide
theorem romix : Statement .romix := by unfold Statement; decide
theorem pchk : Statement .pchk := by unfold Statement; decide
theorem hsel : Statement .hsel := by unfold Statement; decide
theorem hxor : Statement .hxor := by unfold Statement; decide
theorem hmask : Statement .hmask := by unfold Statement; decide
theorem hcomb : Statement .hcomb := by unfold Statement; decide
theorem wipe : Statement .wipe := by unfold Statement; decide

end Sys2Proof.Laws.ReservedBitsZero
end

