-- ==== Sys2Proof/Laws/Romix.lean ====
section
/-! SUPPORT. What the two phases of ROMix do to X and to the table memory V. -/

namespace Sys2Proof.Machine

open Sys2Proof

@[simp] theorem length_blockMix (b : List Byte) (r : Nat) : (blockMix b r).length = 128 * r :=
  length_deinterleave _ _ (length_blockMixChain b r)

@[simp] theorem Mixing.mix_x (m : Mixing) (b : List Byte) (r : Nat) : (m.mix b r).x = blockMix b r := rfl
@[simp] theorem Mixing.mix_v (m : Mixing) (b : List Byte) (r : Nat) : (m.mix b r).v = m.v := rfl
@[simp] theorem Mixing.mix_chain (m : Mixing) (b : List Byte) (r : Nat) : (m.mix b r).chain = blockMixChain b r := rfl

/-- Every entry of the table has 128·r bytes. -/
theorem length_iterate_blockMix {b : List Byte} {r : Nat} (h : b.length = 128 * r) (i : Nat) :
    ((fun y => blockMix y r)^[i] b).length = 128 * r := by
  cases i with
  | zero => exact h
  | succ i => rw [Function.iterate_succ_apply', length_blockMix]

theorem fill_succ (r n : Nat) (m : Mixing) : fill r (n + 1) m = fillStep r (fill r n m) n := by
  simp [fill, List.range_succ]

theorem mixBack_succ (c : Config) (fresh : Nat → Byte) (n r k : Nat) (m : Mixing) :
    mixBack c fresh n r (k + 1) m = mixBackStep c fresh n r (mixBack c fresh n r k m) := by
  simp [mixBack, List.range_succ]

/-- Phase 1 leaves BlockMix applied n times to X. -/
theorem fill_x (r n : Nat) (m : Mixing) : (fill r n m).x = (fun y => blockMix y r)^[n] m.x := by
  induction n with
  | zero => rfl
  | succ n ih => rw [fill_succ, Function.iterate_succ_apply', ← ih]; rfl

/-- Phase 1 leaves the evaluations of the last BlockMix. -/
theorem fill_chain (r n : Nat) (m : Mixing) : (fill r (n + 1) m).chain = blockMixChain (fill r n m).x r := by
  rw [fill_succ]; rfl

/-- Every byte of V after phase 1: the table below Vaddr(n), and what stood there from Vaddr(n) up. -/
theorem fill_lookup (r n : Nat) (m : Mixing) (hx : m.x.length = 128 * r) (i a : Nat) (ha : a < 128 * r) :
    Memory.lookup (fill r n m).v (vaddr r i + a) =
      if i < n then some (((fun y => blockMix y r)^[i] m.x).getD a 0) else Memory.lookup m.v (vaddr r i + a) := by
  induction n with
  | zero => simp [fill]
  | succ n ih =>
    have hlen : (fill r n m).x.length = 128 * r := by rw [fill_x]; exact length_iterate_blockMix hx n
    have hv : (fill r (n + 1) m).v = Memory.store (fill r n m).v (vaddr r n) (fill r n m).x := by rw [fill_succ]; rfl
    rw [hv, Memory.lookup_store, hlen, ih]
    have le_of_lt : ∀ {p q : Nat}, p < q → p * 128 * r + 128 * r ≤ q * 128 * r := by
      intro p q h
      have := Nat.mul_le_mul_right (128 * r) h
      rw [Nat.succ_mul] at this
      simpa [Nat.mul_assoc] using this
    unfold vaddr
    rcases Nat.lt_trichotomy i n with h | h | h
    · have := le_of_lt h
      rw [if_neg (by omega), if_pos h, if_pos (by omega)]
    · subst h
      rw [if_pos (by omega), if_pos (by omega), fill_x, Nat.add_sub_cancel_left]
      have := length_iterate_blockMix hx i
      simp [ha, this]
    · have := le_of_lt h
      rw [if_neg (by omega), if_neg (by omega), if_neg (by omega)]

/-- Phase 1 leaves V alone from Vaddr(n) up. -/
theorem fill_lookup_above (r n : Nat) (m : Mixing) (hx : m.x.length = 128 * r) (a : Nat) (ha : 128 * r * n ≤ a) :
    Memory.lookup (fill r n m).v a = Memory.lookup m.v a := by
  induction n with
  | zero => simp [fill]
  | succ n ih =>
    have hlen : (fill r n m).x.length = 128 * r := by rw [fill_x]; exact length_iterate_blockMix hx n
    have hv : (fill r (n + 1) m).v = Memory.store (fill r n m).v (vaddr r n) (fill r n m).x := by rw [fill_succ]; rfl
    have e : n * 128 * r = 128 * r * n := by ring
    rw [Nat.mul_succ] at ha
    rw [hv, Memory.lookup_store, hlen, ih (by omega), if_neg]
    unfold vaddr
    omega

/-- The entry phase 2 reads is the one phase 1 wrote, whatever V held before. -/
theorem load_fill (fresh : Nat → Byte) (r n : Nat) (m : Mixing) (hx : m.x.length = 128 * r) (j : Nat)
    (hj : j < n) :
    Memory.load fresh (fill r n m).v (vaddr r j) (128 * r) = (fun y => blockMix y r)^[j] m.x := by
  rw [Memory.load_eq]
  have hlen := length_iterate_blockMix hx j
  apply List.ext_getElem
  · simp [hlen]
  · intro a h1 h2
    have ha : a < 128 * r := by simpa using h1
    have := fill_lookup r n m hx j a ha
    rw [if_pos hj] at this
    simp [Memory.byte, this, h2]

/-- Phase 2 reads V and writes nothing to it. -/
theorem mixBack_v (c : Config) (fresh : Nat → Byte) (n r k : Nat) (m : Mixing) : (mixBack c fresh n r k m).v = m.v := by
  induction k with
  | zero => rfl
  | succ k ih => rw [mixBack_succ, mixBackStep, Mixing.mix_v, ih]

/-- Phase 2 as an iteration on X alone. -/
theorem mixBack_x (c : Config) (fresh : Nat → Byte) (n r k : Nat) (m : Mixing) :
    (mixBack c fresh n r k m).x =
      (fun x => blockMix (blkxor x (Memory.load fresh m.v (vaddr r (integerify c x r % n)) (128 * r))) r)^[k] m.x := by
  induction k with
  | zero => rfl
  | succ k ih => rw [mixBack_succ, Function.iterate_succ_apply', ← ih, mixBackStep, mixBack_v]; rfl

/-- Phase 2 ends with the evaluations of a BlockMix of r. -/
theorem length_mixBack_chain (c : Config) (fresh : Nat → Byte) (n r k : Nat) (m : Mixing) :
    (mixBack c fresh n r (k + 1) m).chain.length = 2 * r := by
  rw [mixBack_succ]
  exact length_blockMixChain _ r

/-- ROMix on V is ROMix on a local table. -/
theorem romix_x (c : Config) (fresh : Nat → Byte) (v : Memory) (b : List Byte) (n r : Nat) (hn : 1 ≤ n)
    (hb : b.length = 128 * r) : (romix c fresh v b n r).x = localRomix c b n r := by
  unfold romix localRomix
  rw [mixBack_x, fill_x]
  congr 2
  funext x
  rw [load_fill fresh r n ⟨b, v, []⟩ hb _ (Nat.mod_lt _ hn)]

theorem romix_v (c : Config) (fresh : Nat → Byte) (v : Memory) (b : List Byte) (n r : Nat) :
    (romix c fresh v b n r).v = (fill r n ⟨b, v, []⟩).v := mixBack_v _ _ _ _ _ _

theorem length_localRomix (c : Config) (b : List Byte) (n r : Nat) (hn : 1 ≤ n) :
    (localRomix c b n r).length = 128 * r := by
  unfold localRomix
  obtain ⟨k, rfl⟩ : ∃ k, n = k + 1 := ⟨n - 1, by omega⟩
  rw [Function.iterate_succ_apply' (n := k), length_blockMix]

theorem length_romix_x (c : Config) (fresh : Nat → Byte) (v : Memory) (b : List Byte) (n r : Nat) (hn : 1 ≤ n)
    (hb : b.length = 128 * r) : (romix c fresh v b n r).x.length = 128 * r := by
  rw [romix_x c fresh v b n r hn hb, length_localRomix c b n r hn]

theorem length_romix_chain (c : Config) (fresh : Nat → Byte) (v : Memory) (b : List Byte) (n r : Nat) (hn : 1 ≤ n) :
    (romix c fresh v b n r).chain.length = 2 * r := by
  obtain ⟨k, rfl⟩ : ∃ k, n = k + 1 := ⟨n - 1, by omega⟩
  exact length_mixBack_chain c fresh (k + 1) r k _

/-! ## What ROMIX writes, byte by byte -/

/-- BUF after ROMIX: the final X, then what stood there. -/
theorem State.bufByte_writeRomix (s : State) (m : Mixing) (a : Nat) :
    (s.writeRomix m).bufByte a = if a < m.x.length then m.x.getD a 0 else s.bufByte a := by
  rw [State.bufByte_congr (s := s.storeBuf 0 m.x) (t := s.writeRomix m) rfl rfl, State.bufByte_storeBuf]
  simp

/-- XY after ROMIX: X, then the scratch Y of the last BlockMix, then what stood there. -/
theorem State.xyByte_writeRomix (s : State) (m : Mixing) (a : Nat) :
    (s.writeRomix m).xyByte a =
      if a < m.x.length + 64 * m.chain.length then (m.x ++ (scratchY m.chain).flatten).getD a 0 else s.xyByte a := by
  rw [State.xyByte_congr (s := s.storeXy 0 (m.x ++ (scratchY m.chain).flatten)) (t := s.writeRomix m) rfl rfl,
    State.xyByte_storeXy, List.length_append, length_scratchY_flatten]
  simp only [Nat.zero_le, true_and, Nat.zero_add, Nat.sub_zero]

/-- V after ROMIX is what its MemWrites made of it. -/
theorem State.vByte_writeRomix (s : State) (m : Mixing) (a : Nat) :
    (s.writeRomix m).vByte a = Memory.byte (s.fresh .v) m.v a := rfl

/-! ## Canonical form and bounds -/

/-- A store inside a memory's range keeps every entry inside it. -/
theorem Memory.below_store {m : Memory} {n : Nat} (h : Memory.below m n) (a : Nat) (bytes : List Byte)
    (hb : a + bytes.length ≤ n) : Memory.below (Memory.store m a bytes) n := by
  intro c hc
  simp only [Memory.store, List.mem_append, List.mem_filter] at hc
  rcases hc with (hc | hc) | hc
  · exact h c hc.1
  · have := Memory.cells_addr hc
    omega
  · exact h c hc.1

theorem wf_romix {v : Memory} (h : Memory.wf v) (c : Config) (fresh : Nat → Byte) (b : List Byte) (n r : Nat) :
    Memory.wf (romix c fresh v b n r).v := by
  rw [romix_v]
  suffices ∀ k, Memory.wf (fill r k ⟨b, v, []⟩).v from this n
  intro k
  induction k with
  | zero => exact h
  | succ k ih => rw [fill_succ]; exact Memory.wf_store ih _ _

theorem below_romix {v : Memory} {bound : Nat} (h : Memory.below v bound) (c : Config) (fresh : Nat → Byte)
    (b : List Byte) (n r : Nat) (hb : b.length = 128 * r) (hn : 128 * r * n ≤ bound) :
    Memory.below (romix c fresh v b n r).v bound := by
  rw [romix_v]
  suffices ∀ k, k ≤ n → Memory.below (fill r k ⟨b, v, []⟩).v bound from this n (Nat.le_refl n)
  intro k hk
  induction k with
  | zero => exact h
  | succ k ih =>
    rw [fill_succ]
    refine Memory.below_store (ih (by omega)) _ _ ?_
    rw [fill_x, length_iterate_blockMix hb]
    have : 128 * r * (k + 1) ≤ 128 * r * n := Nat.mul_le_mul_left _ hk
    have e : vaddr r k = 128 * r * k := by unfold vaddr; ring
    rw [Nat.mul_succ] at this
    omega

end Sys2Proof.Machine
end

