-- ==== Sys2Proof/Tests/Slice0.lean ====
section
/-! SUPPORT. Tests of single definitions against values the spec prints (95_test_vectors.md), and, for each statement with
hypotheses, states and operands that meet them. -/

namespace Sys2Proof.Tests

open Sys2Proof Sys2Proof.Machine

/-! ## Well-formedness: each check refuses an ill-formed term -/

theorem test_wf_wr_offset : HostLine.wf (.wr (.window .buf 2) 3) = false := by decide
theorem test_wf_rd_offset : HostLine.wf (.rd (.window .hdr 1) none) = false := by decide
theorem test_wf_wrb_offset : HostLine.wf (.wrb .buf 1 [1, 2, 3, 4]) = false := by decide
theorem test_wf_wrb_count : HostLine.wf (.wrb .buf 0 [1, 2, 3]) = false := by decide
theorem test_wf_rdb_offset : HostLine.wf (.rdb .buf 2 4 none) = false := by decide
theorem test_wf_rdb_count : HostLine.wf (.rdb .buf 0 5 none) = false := by decide
theorem test_wf_rdb_expected : HostLine.wf (.rdb .buf 0 4 (some [1, 2, 3])) = false := by decide
theorem test_wf_line : HostLine.wf (.wrb .buf 0 [1, 2, 3, 4]) = true := by decide
/-- R98 asks nothing of an offset written as a number: section 2.10 has the line RD 0x0006. -/
theorem test_wf_misaligned_number : HostLine.wf (.rd (.number 0x0006) none) = true := by decide
theorem test_wf_rMax : Config.wf { Config.cfgA with rMax := 0 } = false := by decide
theorem test_wf_rMax_sizeMax : Config.wf { Config.cfgA with rMax := 2 ^ 24 } = false := by decide
theorem test_wf_vBytes : Config.wf { Config.cfgA with vBytes := 127 } = false := by decide
theorem test_wf_vBytes_sizeMax : Config.wf { Config.cfgA with vBytes := 2 ^ 32 } = false := by decide
theorem test_wf_addrBits : Config.wf { Config.cfgA with addrBits := 7, rMax := 0, vBytes := 0 } = false := by decide
theorem test_wf_ioff : Config.wf { Config.cfgA with ioffFromEnd := 7 } = false := by decide
theorem test_wf_ioff_far : Config.wf { Config.cfgA with ioffFromEnd := 129 } = false := by decide
theorem test_wf_ioff_exception : Config.wf { Config.cfgA with ioffExceptions := [(1, 121)] } = false := by decide
theorem test_wf_cfgA : Config.cfgA.wf = true := by decide

/-! ## Decoding: words written out from R93, bit 31 first -/

theorem test_decode_salsa : decode 0b00000000000000000000000000000001 = .ok .salsa := by decide
theorem test_decode_bmix : decode 0b00000000000000000000000000000010 = .ok .bmix := by decide
theorem test_decode_romix : decode 0b00000000000000000000000000000011 = .ok .romix := by decide
theorem test_decode_pchk : decode 0b00000000000000000000000000000100 = .ok .pchk := by decide
theorem test_decode_hsel : decode 0b00000000000000000000000000010000 = .ok .hsel := by decide
theorem test_decode_hxor : decode 0b00000000000000000000000000010001 = .ok .hxor := by decide
theorem test_decode_hmask : decode 0b00000000000000000000000000010010 = .ok .hmask := by decide
theorem test_decode_hcomb : decode 0b00000000000000000000000000010011 = .ok .hcomb := by decide
theorem test_decode_wipe : decode 0b00000000000000000000000000011111 = .ok .wipe := by decide
theorem test_decode_zero : decode 0x00000000 = .error .unlistedOp := by decide
theorem test_decode_after_wipe : decode 0x00000020 = .error .unlistedOp := by decide
theorem test_decode_reserved : decode 0x00010001 = .error .reservedBits := by decide
theorem test_decodeTableWord : decodeTableWord 32 0x1F = some .wipe := by decide
theorem test_decodeTableWord_refused : decodeTableWord 32 0x05 = none := by decide

/-! ## Small states and what a step makes of them -/

/-- The reset state with the host's events to come. -/
def waiting (events : List HostEvent) : State := { State.reset with pending := events }

/-- A legal ROMIX in flight: N = 1024, R = 8, with the given delay and the host's events to come. -/
def inFlight (delay : Nat) (events : List HostEvent) : State :=
  { State.reset with
    status := ⟨true, false, none, 3⟩, curw := 3, n := 1024, r := 8, p := 16, delay := delay, pending := events }

/-- The reset state after a ROMIX that ended with InvalidParameter, with the host's events to come. -/
def failed (events : List HostEvent) : State :=
  { State.reset with status := ⟨false, false, some .invalidParameter, 3⟩, curw := 3, pending := events }

/-- Does the next step answer a state that meets `p`? -/
def nextMeets (s : State) (p : State → Bool) : Bool :=
  match step s with
  | .next t => p t
  | .fault _ => false
  | .refused _ => false

/-- Does the word's completion step, from `s`, answer a state that meets `p`? -/
def runMeets (s : State) (w : Nat) (p : State → Bool) : Bool := nextMeets (s.withFetchWord 32 w) p

/-- The input of vectors B1, M1, M2 (the B of KAT1). -/
def kat1 : List Byte := ([
  0xf7, 0xce, 0x0b, 0x65, 0x3d, 0x2d, 0x72, 0xa4, 0x10, 0x8c, 0xf5, 0xab, 0xe9, 0x12, 0xff, 0xdd,
  0x77, 0x76, 0x16, 0xdb, 0xbb, 0x27, 0xa7, 0x0e, 0x82, 0x04, 0xf3, 0xae, 0x2d, 0x0f, 0x6f, 0xad,
  0x89, 0xf6, 0x8f, 0x48, 0x11, 0xd1, 0xe8, 0x7b, 0xcc, 0x3b, 0xd7, 0x40, 0x0a, 0x9f, 0xfd, 0x29,
  0x09, 0x4f, 0x01, 0x84, 0x63, 0x95, 0x74, 0xf3, 0x9a, 0xe5, 0xa1, 0x31, 0x52, 0x17, 0xbc, 0xd7] : List Byte) ++
  [
  0x89, 0x49, 0x91, 0x44, 0x72, 0x13, 0xbb, 0x22, 0x6c, 0x25, 0xb5, 0x4d, 0xa8, 0x63, 0x70, 0xfb,
  0xcd, 0x98, 0x43, 0x80, 0x37, 0x46, 0x66, 0xbb, 0x8f, 0xfc, 0xb5, 0xbf, 0x40, 0xc2, 0x54, 0xb0,
  0x67, 0xd2, 0x7c, 0x51, 0xce, 0x4a, 0xd5, 0xfe, 0xd8, 0x29, 0xc9, 0x0b, 0x50, 0x5a, 0x57, 0x1b,
  0x7f, 0x4d, 0x1c, 0xad, 0x6a, 0x52, 0x3c, 0xda, 0x77, 0x0e, 0x67, 0xbc, 0xea, 0xaf, 0x7e, 0x89]

/-! ## The commands, on the vectors of 95_test_vectors.md -/

/-- Vector S6. -/
theorem test_salsa_s6 : runMeets (State.reset.storeBuf 0 (1 :: List.replicate 63 0)) 0x01 (fun t =>
    t.loadBuf 64 == [
  0x5a, 0xe9, 0xe9, 0x72, 0x37, 0x9a, 0x69, 0x04, 0xb3, 0x1e, 0xb1, 0xbf, 0xc1, 0xa2, 0x02, 0x06,
  0x35, 0x3a, 0xf1, 0xdb, 0x4e, 0x35, 0x7a, 0x0d, 0x59, 0xce, 0x12, 0xf1, 0xad, 0x68, 0xd8, 0x1f,
  0xc1, 0xd9, 0xa5, 0x27, 0xe6, 0xf0, 0x70, 0xac, 0xaa, 0xc6, 0x12, 0x13, 0x13, 0x0c, 0x31, 0xf3,
  0x50, 0x04, 0x9b, 0xd0, 0xf9, 0xe0, 0x84, 0x49, 0x36, 0x86, 0x10, 0x48, 0xe4, 0x4b, 0x0d, 0x93] && t.status.word == 0x00010002) = true := by decide +kernel

/-- Vector S6, after the first QR call. -/
theorem test_quarterRound_s6 : (quarterRound (decodeWords (1 :: List.replicate 63 0)) 0 4 8 12).toList =
    [0x08008145, 0, 0, 0, 0x80, 0, 0, 0, 0x10200, 0, 0, 0, 0x20500000, 0, 0, 0] := by decide +kernel

/-- Vector B1. -/
theorem test_bmix_b1 : runMeets { State.reset.storeBuf 0 kat1 with r := 1 } 0x02 (fun t =>
    t.loadBuf 128 == (([
  0xa4, 0x1f, 0x85, 0x9c, 0x66, 0x08, 0xcc, 0x99, 0x3b, 0x81, 0xca, 0xcb, 0x02, 0x0c, 0xef, 0x05,
  0x04, 0x4b, 0x21, 0x81, 0xa2, 0xfd, 0x33, 0x7d, 0xfd, 0x7b, 0x1c, 0x63, 0x96, 0x68, 0x2f, 0x29,
  0xb4, 0x39, 0x31, 0x68, 0xe3, 0xc9, 0xe6, 0xbc, 0xfe, 0x6b, 0xc5, 0xb7, 0xa0, 0x6d, 0x96, 0xba,
  0xe4, 0x24, 0xcc, 0x10, 0x2c, 0x91, 0x74, 0x5c, 0x24, 0xad, 0x67, 0x3d, 0xc7, 0x61, 0x8f, 0x81] : List Byte) ++
  [
  0x20, 0xed, 0xc9, 0x75, 0x32, 0x38, 0x81, 0xa8, 0x05, 0x40, 0xf6, 0x4c, 0x16, 0x2d, 0xcd, 0x3c,
  0x21, 0x07, 0x7c, 0xfe, 0x5f, 0x8d, 0x5f, 0xe2, 0xb1, 0xa4, 0x16, 0x8f, 0x95, 0x36, 0x78, 0xb7,
  0x7d, 0x3b, 0x3d, 0x80, 0x3b, 0x60, 0xe4, 0xab, 0x92, 0x09, 0x96, 0xe5, 0x9b, 0x4d, 0x53, 0xb6,
  0x5d, 0x2a, 0x22, 0x58, 0x77, 0xd5, 0xed, 0xf5, 0x84, 0x2c, 0xb9, 0xf1, 0x4e, 0xef, 0xe4, 0x25]) && t.status.word == 0x00020002) = true := by decide +kernel

/-- R144 for r = 2 (the order vector B2 tests). -/
theorem test_deinterleave_r2 : deinterleave [[0], [1], [2], [3]] 2 = [0, 2, 1, 3] := by decide

/-- Vector M2. -/
theorem test_romix_m2 : runMeets { State.reset.storeBuf 0 kat1 with n := 1, r := 1 } 0x03 (fun t =>
    t.loadBuf 128 == (([
  0xd2, 0x97, 0xdf, 0xe8, 0xb9, 0xd8, 0x57, 0x50, 0x33, 0x03, 0x88, 0xed, 0x15, 0x03, 0x20, 0xb7,
  0x4c, 0xbd, 0xfb, 0xdf, 0x87, 0x5e, 0x28, 0x0d, 0x59, 0x96, 0x6e, 0xb8, 0x0d, 0x6a, 0xbc, 0xb3,
  0x4f, 0xa6, 0xce, 0x79, 0xc5, 0xb2, 0x54, 0x7c, 0xc8, 0xad, 0x19, 0xfa, 0xf3, 0xc4, 0x7f, 0x25,
  0x42, 0x64, 0xf1, 0x65, 0x8b, 0x53, 0xae, 0x7f, 0x09, 0xef, 0x9c, 0x15, 0x95, 0x20, 0x9b, 0x65] : List Byte) ++
  [
  0x06, 0x85, 0x3f, 0x7c, 0x25, 0xdb, 0xb0, 0x63, 0x9c, 0x09, 0xdb, 0x85, 0x30, 0x3b, 0xc6, 0xa1,
  0x2a, 0x3c, 0xd6, 0x91, 0x5a, 0xc1, 0xde, 0x04, 0xe7, 0x06, 0xe7, 0x40, 0x06, 0xeb, 0x6e, 0xbf,
  0x40, 0x3f, 0x7f, 0xe5, 0xef, 0x89, 0x09, 0x00, 0x02, 0xdf, 0x7a, 0x50, 0xe5, 0x88, 0xc4, 0x2b,
  0x05, 0xec, 0x64, 0x72, 0x18, 0xad, 0x08, 0x0a, 0xcb, 0x07, 0x37, 0xd0, 0x06, 0x41, 0x60, 0xba]) && t.status.word == 0x00030002) = true := by decide +kernel

/-- Vector M1, the first iteration of phase 2: the integer at X[64..71]. -/
theorem test_integerify_m1 : integerify Config.cfgA
    (List.replicate 64 0xff ++ [0x64, 0xa9, 0x10, 0x05, 0xd5, 0xe8, 0xb6, 0xe2] ++ List.replicate 56 0xff) 1 =
    16336500699943709028 := by decide +kernel

/-- The rejected literal reading, IOFF(r) = 128r − 8 (R159), as a rule and as an exception: the last 8 bytes. -/
theorem test_integerify_literal :
    integerify { Config.cfgA with ioffFromEnd := 8 } (List.replicate 120 0 ++ [1, 0, 0, 0, 0, 0, 0, 0]) 1 = 1 ∧
    integerify { Config.cfgA with ioffExceptions := [(1, 120)] } (List.replicate 120 0 ++ [1, 0, 0, 0, 0, 0, 0, 0]) 1 = 1 := by
  decide +kernel

/-- Section 2.3: N = 2048, R = 8 does not fit V. -/
theorem test_romix_too_large : runMeets { State.reset with n := 2048, r := 8 } 0x03 (fun t =>
    t.status.word == 0x00030304 && t.buf == []) = true := by decide +kernel

/-- Section 2.4: (3, 9, 1) is InvalidParameter before it is ResourceExhausted. -/
theorem test_pchk_order : runMeets { State.reset with n := 3, r := 9, p := 1 } 0x04 (fun t =>
    t.status.word == 0x00040104) = true := by decide +kernel

/-- Section 2.4: (1024, 8, 16) is legal. -/
theorem test_pchk_ok : runMeets { State.reset with n := 1024, r := 8, p := 16 } 0x04 (fun t =>
    t.status.word == 0x00040002) = true := by decide +kernel

/-- Section 2.5: DIFF = 0x1B012DCD. -/
theorem test_hsel_row9 : runMeets { State.reset with diff := 0x1B012DCD } 0x10 (fun t =>
    t.n == 2048 && t.r == 2 && t.p == 2 && t.mult == 2 && t.tblidx == 9 && t.status.word == 0x00100002) = true := by
  decide +kernel

/-- Section 2.5: DIFF = 0x20000000 is out of range. -/
theorem test_hsel_range : runMeets { State.reset with diff := 0x20000000 } 0x10 (fun t =>
    t.status.word == 0x00100104 && t.n == 0) = true := by decide +kernel

/-- Vector X1. -/
theorem test_hxor_x1 : runMeets
    { State.reset with
      hdr := Vector.ofFn fun i => BitVec.ofNat 8 i.val
      sbuf := Vector.ofFn fun i => if i.val < 76 then 0xff else 0x11 } 0x11 (fun t =>
    t.regWord .status == 0x00110002 && t.windowWord .s 0 == 0xFCFDFEFF && t.windowWord .s 72 == 0xB4B5B6B7 &&
      t.windowWord .s 76 == 0x4F4E4D4C) = true := by decide +kernel

/-- H of vectors K5 and CB1. -/
def k5 : Vector Byte 32 := Vector.ofFn fun i => if i.val < 30 then 0xaa else if i.val = 30 then 0x1f else 0x00

/-- Vector K5, HASH_ORDER = le. -/
theorem test_hmask_k5 : runMeets { State.reset with h := k5 } 0x12 (fun t =>
    t.k == 11 && t.windowWord .mask 24 == 0xFFFFFFFF && t.windowWord .mask 28 == 0x001FFFFF) = true := by decide +kernel

/-- Vector K4, HASH_ORDER = be. -/
theorem test_hmask_k4_be : runMeets
    { State.reset with
      cfg := { Config.cfgA with hashOrder := .be }
      h := Vector.ofFn fun i => if i.val = 0 then 0x01 else 0x00 } 0x12 (fun t =>
    t.k == 7 && t.windowWord .mask 0 == 0xFFFFFF01) = true := by decide +kernel

/-- Vector CB1. -/
theorem test_hcomb_cb1 : runMeets
    { State.reset with h := k5, s2 := Vector.ofFn fun i => BitVec.ofNat 8 (0xf0 + i.val) } 0x13 (fun t =>
    t.out.toList == [
  0x5a, 0x5b, 0x58, 0x59, 0x5e, 0x5f, 0x5c, 0x5d, 0x52, 0x53, 0x50, 0x51, 0x56, 0x57, 0x54, 0x55,
  0xaa, 0xab, 0xa8, 0xa9, 0xae, 0xaf, 0xac, 0xad, 0xa2, 0xa3, 0xa0, 0xa1, 0xa6, 0xa7, 0x11, 0x00] && t.k == 11) = true := by decide +kernel

/-- Vectors W1 and W2, on a block with a small V. -/
theorem test_wipe : runMeets
    { State.reset.storeBuf 1020 [0xff, 0xff, 0xff, 0xff] with
      cfg := { Config.cfgA with vBytes := 128, rMax := 8 }, n := 16, h := k5, k := 11 } 0x1F (fun t =>
    t.windowWord .buf 1020 == 0 && t.k == 0 && t.h.toList == List.replicate 32 0 && t.n == 16 &&
      t.status.word == 0x001F0002) = true := by decide +kernel

/-! ## Issue, errors and accesses -/

/-- Vector Q1: op 0x00. -/
theorem test_illegal : runMeets State.reset 0x00 (fun t => t.status.word == 0x00000404) = true := by decide +kernel

/-- Vector Q2: a dropped command. -/
theorem test_dropped : nextMeets (failed [.write 32 0x000 0x00000001]) (fun t => t.status.word == 0x00030104) = true := by
  decide +kernel

/-- Vector Q2: the acknowledge. -/
theorem test_acknowledge : nextMeets (failed [.write 32 0x004 0x00000004]) (fun t => t.status.word == 0x00030000) = true := by
  decide +kernel

/-- Section 2.10: RD 0x1400 and a 16-bit access get BusError. -/
theorem test_busError : nextMeets (waiting [.read 32 0x1400]) (fun t => t.responses == [.busError]) = true ∧
    nextMeets (waiting [.read 16 0x000]) (fun t => t.responses == [.busError]) = true := by decide +kernel

/-- Section 2.10: WR BUF+4, 0xDDCCBBAA. -/
theorem test_write_buf : nextMeets (waiting [.write 32 0x1004 0xDDCCBBAA]) (fun t =>
    t.buf == [(4, 0xaa), (5, 0xbb), (6, 0xcc), (7, 0xdd)] && t.windowWord .buf 4 == 0xDDCCBBAA) = true := by decide +kernel

/-- Section 2.10: the line RD 0x0006 gets BusError. -/
theorem test_script_busError : nextMeets (waiting (expandLine 0 (.rd (.number 0x0006) none))) (fun t =>
    t.responses == [.busError]) = true := by decide +kernel

/-- R98: an offset may be written by a register's name. -/
theorem test_script_name : expandLine 0 (.wr (.reg .diff) 5) = [.write 32 0x01C 5] := by decide

/-- R99: the WRB line of vector "WRB H+28, 00 00 00 80". -/
theorem test_wrb : expandLine 0 (.wrb .h 28 [0x00, 0x00, 0x00, 0x80]) = [.write 32 0x0FC 0x80000000] := by
  decide +kernel

/-! ## The hypotheses of the statements can be met -/

theorem witness_illegal_reserved_bit : ∃ s : State, s.sequencerMoves ∧ s.curw.extractLsb' 8 24 ≠ 0 :=
  ⟨State.reset.withFetchWord 32 0x00010001, ⟨rfl, .inl rfl⟩, by decide⟩

theorem witness_illegal_unlisted_op : ∃ s : State, s.sequencerMoves ∧
    s.curw.extractLsb' 0 8 ∉ ([0x01, 0x02, 0x03, 0x04, 0x10, 0x11, 0x12, 0x13, 0x1F] : List Byte) :=
  ⟨State.reset.withFetchWord 32 0x00000020, ⟨rfl, .inl rfl⟩, by decide⟩

theorem witness_primitives : ∃ i : Nat, i < 4 ∧ i = 3 := ⟨3, by decide⟩

theorem witness_rotation : (0 < 1 ∧ 1 < 32) ∧ (0 < 31 ∧ 31 < 32) := by decide

theorem witness_latched_command : ∃ (s : State) (i : Instr), s.sequencerMoves ∧ decode s.curw = .ok i :=
  ⟨State.reset.withFetchWord 32 0x1F, .wipe, ⟨rfl, .inl rfl⟩, by decide⟩

theorem witness_command_issued : ∃ (s : State) (w : Word) (rest : List HostEvent), s.status.busy = false ∧
    s.pending = .write 32 s.cfg.base w :: rest ∧ s.status.error = none :=
  ⟨waiting [.write 32 0 1], 1, [], rfl, rfl, rfl⟩

theorem witness_command_dropped : ∃ (s : State) (w : Word) (rest : List HostEvent), s.status.busy = false ∧
    s.pending = .write 32 s.cfg.base w :: rest ∧ s.status.error ≠ none :=
  ⟨failed [.write 32 0 1], 1, [], rfl, rfl, by decide⟩

theorem witness_stalled_read : ∃ (s : State) (off : Nat) (rest : List HostEvent), s.status.busy = true ∧
    s.pending = .read 32 (s.cfg.base + off) :: rest ∧ off % 4 = 0 ∧ off < 0x1000 + 128 * s.cfg.rMax ∧ off ≠ 0x004 ∧
      off ≠ 0x008 :=
  ⟨inFlight 5 [.read 32 0x13FC], 0x13FC, [], rfl, rfl, by decide⟩

theorem witness_stalled_write : ∃ (s : State) (off : Nat) (v : Word) (rest : List HostEvent), s.status.busy = true ∧
    s.pending = .write 32 (s.cfg.base + off) v :: rest ∧ off % 4 = 0 ∧ off < 0x1000 + 128 * s.cfg.rMax ∧ off ≠ 0x004 ∧
      off ≠ 0x008 :=
  ⟨inFlight 5 [.write 32 0x000 1], 0x000, 1, [], rfl, rfl, by decide⟩

theorem witness_status_read_in_flight : ∃ (s : State) (rest : List HostEvent), s.status.busy = true ∧ 0 < s.delay ∧
    s.pending = .read 32 (s.cfg.base + 0x004) :: rest := ⟨inFlight 1 [.read 32 0x004], [], rfl, by decide, rfl⟩

theorem witness_status_write_busy : ∃ (s : State) (v : Word) (rest : List HostEvent), s.status.busy = true ∧
    0 < s.delay ∧ s.pending = .write 32 (s.cfg.base + 0x004) v :: rest :=
  ⟨inFlight 1 [.write 32 0x004 6], 6, [], rfl, by decide, rfl⟩

theorem witness_ie_read_in_flight : ∃ (s : State) (rest : List HostEvent), s.status.busy = true ∧ 0 < s.delay ∧
    s.pending = .read 32 (s.cfg.base + 0x008) :: rest := ⟨inFlight 1 [.read 32 0x008], [], rfl, by decide, rfl⟩

theorem witness_ie_write_in_flight : ∃ (s : State) (v : Word) (rest : List HostEvent), s.status.busy = true ∧
    0 < s.delay ∧ s.pending = .write 32 (s.cfg.base + 0x008) v :: rest :=
  ⟨inFlight 1 [.write 32 0x008 1], 1, [], rfl, by decide, rfl⟩

theorem witness_accepted_command : ∃ s : State, s.status.busy = true := ⟨inFlight 3 [.poll], rfl⟩

theorem witness_status_write_idle : ∃ (s : State) (v : Word) (rest : List HostEvent),
    s.pending = .write 32 (s.cfg.base + 0x004) v :: rest ∧ s.status.busy = false ∧ s.status.error ≠ none :=
  ⟨failed [.write 32 0x004 4], 4, [], rfl, rfl, by decide⟩

theorem witness_status_write_in_flight : ∃ (s : State) (v : Word) (rest : List HostEvent),
    s.pending = .write 32 (s.cfg.base + 0x004) v :: rest ∧ 0 < s.delay ∧ s.status.busy = true ∧ s.status.done = false ∧
      s.status.error = none := ⟨inFlight 1 [.write 32 0x004 6], 6, [], rfl, by decide, rfl, rfl, rfl⟩

theorem witness_exec (i : Instr) : ∃ s t : State, exec i s = .next t := by
  obtain ⟨t, h⟩ := exec_is_next i State.reset
  exact ⟨_, _, h⟩

theorem witness_reset_event_idle : ∃ (s : State) (rest : List HostEvent),
    s.pending = .reset :: rest ∧ s.status.busy = false := ⟨waiting [.reset], [], rfl, rfl⟩

theorem witness_reset_event_in_flight : ∃ (s : State) (rest : List HostEvent),
    s.pending = .reset :: rest ∧ s.status.busy = true ∧ 0 < s.delay := ⟨inFlight 1 [.reset], [], rfl, rfl, by decide⟩

theorem witness_busError_width : ∃ (s : State) (width off : Nat) (rest : List HostEvent), width ≠ 32 ∧
    s.status.busy = false ∧ s.pending = .read width (s.cfg.base + off) :: rest :=
  ⟨waiting [.read 64 0x000], 64, 0, [], by decide, rfl, rfl⟩

theorem witness_busError_misaligned : ∃ (s : State) (off : Nat) (v : Word) (rest : List HostEvent), off % 4 ≠ 0 ∧
    0 < s.delay ∧ s.pending = .write 32 (s.cfg.base + off) v :: rest :=
  ⟨inFlight 1 [.write 32 0x006 1], 6, 1, [], by decide, by decide, rfl⟩

theorem witness_busError_unmapped : ∃ (s : State) (off : Nat) (rest : List HostEvent),
    off = 0x1000 + 128 * s.cfg.rMax ∧ s.status.busy = false ∧ s.pending = .read 32 (s.cfg.base + off) :: rest :=
  ⟨waiting [.read 32 0x1400], 0x1400, [], by decide, rfl, rfl⟩

theorem witness_two_reads : ∃ (s : State) (width addr : Nat) (rest : List HostEvent), s.status.busy = false ∧
    s.pending = .read width addr :: .read width addr :: rest :=
  ⟨waiting [.read 32 0x1000, .read 32 0x1000], 32, 0x1000, [], rfl, rfl⟩

theorem witness_read_back (off : Nat) (_ : off ∈ [0x00C, 0x010, 0x014, 0x01C, 0x008]) :
    ∃ (s : State) (v : Word) (rest : List HostEvent), s.status.busy = false ∧
      s.pending = .write 32 (s.cfg.base + off) v :: .read 32 (s.cfg.base + off) :: rest :=
  ⟨waiting [.write 32 (0 + off) 7, .read 32 (0 + off)], 7, [], rfl, rfl⟩

theorem witness_ignored_writes (off : Nat) (_ : off ∈ [0x018, 0x020, 0x024, 0x03C, 0x120, 0xFFC]) :
    ∃ (s : State) (v : Word) (rest : List HostEvent), s.status.busy = false ∧
      s.pending = .write 32 (s.cfg.base + off) v :: rest := ⟨waiting [.write 32 (0 + off) 5], 5, [], rfl, rfl⟩

theorem witness_reserved_reads (off : Nat) (_ : off ∈ [0x028, 0x03C, 0x160, 0xFFC]) :
    ∃ (s : State) (rest : List HostEvent), s.status.busy = false ∧ s.pending = .read 32 (s.cfg.base + off) :: rest :=
  ⟨waiting [.read 32 (0 + off)], [], rfl, rfl⟩

theorem witness_window_write (off : Nat) (_ : off ∈ [0x040, 0x08C, 0x090, 0x0DC, 0x0E0, 0x0FC, 0x100, 0x11C, 0x13FC]) :
    ∃ (s : State) (v : Word) (rest : List HostEvent), s.status.busy = false ∧
      s.pending = .write 32 (s.cfg.base + off) v :: rest := ⟨waiting [.write 32 (0 + off) 5], 5, [], rfl, rfl⟩

theorem witness_window_bounds : (0x08C = 0x040 + 4 * 19 ∧ 19 < 20) ∧ (0x0DC = 0x090 + 4 * 19 ∧ 19 < 20) ∧
    (0x0FC = 0x0E0 + 4 * 7 ∧ 7 < 8) ∧ (0x11C = 0x100 + 4 * 7 ∧ 7 < 8) ∧ (0x13C = 0x120 + 4 * 7 ∧ 7 < 8) ∧
    (0x15C = 0x140 + 4 * 7 ∧ 7 < 8) ∧ (0x13FC = 0x1000 + 4 * 255 ∧ 4 * 255 < 128 * State.reset.cfg.rMax) := by decide

theorem witness_window_read (off : Nat) (_ : off ∈ [0x08C, 0x0DC, 0x0FC, 0x11C, 0x13C, 0x15C, 0x13FC]) :
    ∃ (s : State) (rest : List HostEvent), s.status.busy = false ∧ s.pending = .read 32 (s.cfg.base + off) :: rest :=
  ⟨waiting [.read 32 (0 + off)], [], rfl, rfl⟩

/-- Vector S4 has such a twin; here the all-zero block and that of vector S3. -/
theorem witness_flipped_blocks : ∃ b b' : List Byte, b.length = 64 ∧ b'.length = 64 ∧
    ∀ i : Nat, i < 64 → b'.getD i 0 = if i % 4 = 3 then b.getD i 0 ^^^ 0x80 else b.getD i 0 :=
  ⟨List.replicate 64 0, (List.replicate 16 ([0x00, 0x00, 0x00, 0x80] : List Byte)).flatten, by simp, by simp,
    by decide +kernel⟩

theorem witness_blkxor : ∃ (a b : List Byte) (t : Nat), a.length = b.length ∧ t < a.length :=
  ⟨[1, 2], [3, 4], 1, by decide⟩

theorem witness_blockMix : ∃ (b : List Byte) (r : Nat) (y : Nat → List Byte), 1 ≤ r ∧ b.length = 128 * r ∧
    y = fun i => (scratchY (blockMixChain b r)).getD i [] := ⟨List.replicate 256 7, 2, _, by decide, List.length_replicate, rfl⟩

theorem witness_blockMix_r1 : ∃ (b : List Byte) (r : Nat), r = 1 ∧ 1 ≤ r ∧ b.length = 128 * r :=
  ⟨List.replicate 128 7, 1, rfl, by decide, List.length_replicate⟩

theorem witness_rCheck : ∃ c : Config, (2 ^ 30 ≥ 2 ^ 30) ∧ 256 * 2 ^ 24 > c.sizeMax ∧ (256 * 9 ≤ c.sizeMax ∧ 9 > c.rMax) ∧
    (256 * 8 ≤ c.sizeMax ∧ 8 ≤ c.rMax) ∧ c.vBytes ≥ 128 * c.rMax := ⟨Config.cfgA, by decide⟩

theorem witness_bmix : ∃ (s : State) (r : Nat), r = s.r.toNat ∧ 1 ≤ r ∧ r < 2 ^ 30 ∧ r = s.cfg.rMax ∧
    256 * r ≤ s.cfg.sizeMax := ⟨{ State.reset with r := 8 }, 8, by decide⟩

theorem witness_bmix_errors :
    (∃ s : State, s.r.toNat = 2 ^ 30) ∧ (∃ s : State, s.r.toNat = 0) ∧
    (∃ s : State, s.r.toNat < 2 ^ 30 ∧ s.r.toNat ≠ 0 ∧ 256 * s.r.toNat > s.cfg.sizeMax) ∧
    (∃ s : State, s.r.toNat < 2 ^ 30 ∧ s.r.toNat ≠ 0 ∧ s.r.toNat > s.cfg.rMax) :=
  ⟨⟨{ State.reset with r := 0x40000000 }, by decide⟩, ⟨State.reset, by decide⟩,
    ⟨{ State.reset with r := 0x01000000 }, by decide⟩, ⟨{ State.reset with r := 9 }, by decide⟩⟩

theorem witness_isPow2 : (2 ^ 31 < 2 ^ 32) ∧ ∃ e : Nat, e ≤ 31 ∧ 2 ^ 31 = 2 ^ e := ⟨by decide, 31, by decide⟩

theorem three_is_no_power : ¬ ∃ e : Nat, 3 = 2 ^ e := by
  rintro ⟨e, h⟩
  rcases e with _ | e
  · simp at h
  · rw [pow_succ] at h; omega

/-- The rows of section 2.4, one for each test. -/
theorem witness_paramCheck : ∃ c : Config,
    (2 ^ 15 * 2 ^ 15 ≥ 2 ^ 30) ∧
    (1 * 1 < 2 ^ 30 ∧ ¬ ∃ e : Nat, 3 = 2 ^ e) ∧
    (0 * 0 < 2 ^ 30 ∧ ∃ e : Nat, 2 ^ 31 = 2 ^ e) ∧
    (8 * 2 ^ 26 < 2 ^ 30 ∧ (∃ e : Nat, 1 = 2 ^ e) ∧ 128 * 8 * 2 ^ 26 > c.sizeMax) ∧
    ((∃ e : Nat, 16 = 2 ^ e) ∧ 128 * 9 * 1 ≤ c.sizeMax ∧ 256 * 9 ≤ c.sizeMax ∧ 128 * 9 * 16 ≤ c.sizeMax ∧ 9 > c.rMax) ∧
    (8 * 16 < 2 ^ 30 ∧ (∃ e : Nat, 1024 = 2 ^ e) ∧ 128 * 8 * 16 ≤ c.sizeMax ∧ 256 * 8 ≤ c.sizeMax ∧
      128 * 8 * 1024 ≤ c.sizeMax ∧ 8 ≤ c.rMax ∧ 128 * 8 * 1024 = c.vBytes) :=
  ⟨Config.cfgA, by decide, ⟨by decide, three_is_no_power⟩, ⟨by decide, 31, rfl⟩, ⟨by decide, ⟨0, rfl⟩, by decide⟩,
    ⟨⟨4, rfl⟩, by decide⟩, ⟨by decide, ⟨10, rfl⟩, by decide⟩⟩

/-- ROMIX and PCHK, the table memory filled exactly: N = 1024, R = 8, P = 16 (KAT2). -/
theorem witness_romix : ∃ (s : State) (n r p : Nat), n = s.n.toNat ∧ r = s.r.toNat ∧ p = s.p.toNat ∧
    (∃ e : Nat, n = 2 ^ e) ∧ 1 ≤ r ∧ 1 ≤ p ∧ r * p < 2 ^ 30 ∧ r < 2 ^ 30 ∧ 128 * r * p ≤ s.cfg.sizeMax ∧
      256 * r ≤ s.cfg.sizeMax ∧ 128 * r * n ≤ s.cfg.sizeMax ∧ r ≤ s.cfg.rMax ∧ 128 * r * n ≤ s.cfg.vBytes :=
  ⟨inFlight 0 [], 1024, 8, 16, rfl, rfl, rfl, ⟨10, rfl⟩, by decide⟩

theorem witness_pchk_invalid : ∃ (s : State) (n r p : Nat), n = s.n.toNat ∧ r = s.r.toNat ∧ p = s.p.toNat ∧
    ¬ ∃ e : Nat, n = 2 ^ e := ⟨{ State.reset with n := 3, r := 1, p := 1 }, 3, 1, 1, rfl, rfl, rfl, three_is_no_power⟩

theorem witness_pchk_invalid_product : ∃ s : State, s.r.toNat * s.p.toNat = 2 ^ 30 :=
  ⟨{ State.reset with n := 16, r := 0x8000, p := 0x8000 }, by decide⟩

theorem witness_pchk_exhausted : ∃ (s : State) (n r p : Nat), n = s.n.toNat ∧ r = s.r.toNat ∧ p = s.p.toNat ∧
    r * p < 2 ^ 30 ∧ (∃ e : Nat, n = 2 ^ e) ∧ r ≠ 0 ∧ p ≠ 0 ∧ 128 * r * p > s.cfg.sizeMax :=
  ⟨{ State.reset with n := 1, r := 8, p := 0x04000000 }, 1, 8, 2 ^ 26, rfl, rfl, rfl, by decide, ⟨0, rfl⟩, by decide⟩

theorem witness_pchk_then_romix : ∃ (c : Config) (n r p : Nat), paramCheck c n r p = .ok () :=
  ⟨Config.cfgA, 1024, 8, 16, by rfl⟩

theorem witness_romix_invalid : (∃ s : State, s.r.toNat = 2 ^ 30) ∧ (∃ s : State, ¬ ∃ e : Nat, s.n.toNat = 2 ^ e) ∧
    (∃ s : State, s.r.toNat = 0) :=
  ⟨⟨{ State.reset with r := 0x40000000 }, by decide⟩, ⟨{ State.reset with n := 3 }, three_is_no_power⟩,
    ⟨State.reset, by decide⟩⟩

theorem witness_romix_exhausted : ∃ (s : State) (n r : Nat), n = s.n.toNat ∧ r = s.r.toNat ∧ r < 2 ^ 30 ∧
    (∃ e : Nat, n = 2 ^ e) ∧ r ≠ 0 ∧ 128 * r * n ≤ s.cfg.sizeMax ∧ r ≤ s.cfg.rMax ∧ 128 * r * n > s.cfg.vBytes :=
  ⟨{ State.reset with n := 2048, r := 8 }, 2048, 8, rfl, rfl, by decide, ⟨11, rfl⟩, by decide⟩

theorem witness_index : ∃ (c : Config) (x : List Byte) (n r e : Nat), ioff c r = 128 * r - 64 ∧ 1 ≤ r ∧
    x.length = 128 * r ∧ n = 2 ^ e ∧ e ≤ 31 :=
  ⟨Config.cfgA, List.replicate 128 0xff, 2 ^ 31, 1, 31, rfl, by decide, rfl, rfl, by decide⟩

theorem witness_ioff : ∃ c c' : Config, c.ioffExceptions.lookup 1 = none ∧ c.ioffFromEnd = 64 ∧
    c'.ioffExceptions.lookup 1 = some 120 := ⟨Config.cfgA, { Config.cfgA with ioffExceptions := [(1, 120)] }, rfl, rfl, rfl⟩

theorem witness_size_exponent : ∃ c c' : Config, c.sizeExceptions.lookup 5 = none ∧
    c'.sizeExceptions.lookup 5 = some 300 := ⟨Config.cfgA, { Config.cfgA with sizeExceptions := [(5, 300)] }, rfl, rfl⟩

theorem witness_table_index : ∃ c : Config, c.sizeExceptions.lookup 0x1F000001 = none ∧
    2 * (sizeExp c 0x1F000001 : Int) ≤ (c.tableLen : Int) - 1 ∧ 2 * (sizeExp c 0x20000000 : Int) > (c.tableLen : Int) - 1 :=
  ⟨Config.cfgA, rfl, by decide⟩

/-- Row 1, the last index in range, and row 57, whose 1024·multiplier is 2^31. -/
theorem witness_hsel : ∃ (s s' : State) (row row' : TableRow),
    ((1 : Nat) : Int) = (s.cfg.tableLen : Int) - 1 - 2 * (sizeExp s.cfg s.diff : Int) ∧ s.cfg.table[1]? = some row ∧
      row.multiplier.toNat < 2 ^ 22 ∧
    ((57 : Nat) : Int) = (s'.cfg.tableLen : Int) - 1 - 2 * (sizeExp s'.cfg s'.diff : Int) ∧ s'.cfg.table[57]? = some row' ∧
      row'.multiplier.toNat < 2 ^ 22 :=
  ⟨{ State.reset with diff := 0x1F000001 }, { State.reset with diff := 0x03000000 }, ⟨1, 2, 2, 1⟩, ⟨2097152, 1, 1, 57⟩,
    by decide, by decide, by decide, by decide, by decide, by decide⟩

theorem witness_hsel_range : ∃ s : State, 2 * (sizeExp s.cfg s.diff : Int) > (s.cfg.tableLen : Int) - 1 :=
  ⟨{ State.reset with diff := 0x20000000 }, by decide⟩

theorem witness_hsel_exhausted : ∃ (s : State) (idx : Nat) (row : TableRow),
    (idx : Int) = (s.cfg.tableLen : Int) - 1 - 2 * (sizeExp s.cfg s.diff : Int) ∧ s.cfg.table[idx]? = some row ∧
      row.multiplier.toNat ≥ 2 ^ 22 :=
  ⟨{ State.reset with diff := 0x02000000 }, 59, ⟨4194304, 1, 1, 59⟩, by decide, by decide, by decide⟩

theorem witness_mask : ∃ (c : Config) (x : Vector Byte 32), c.maskExceptions.lookup x = none ∧ hashVal c.hashOrder x ≠ 0 :=
  ⟨Config.cfgA, k5, rfl, by decide +kernel⟩

theorem witness_mask_exception : ∃ (c : Config) (x m : Vector Byte 32) (k : Fin 257),
    c.maskExceptions.lookup x = some (k, m) :=
  ⟨{ Config.cfgA with maskExceptions := [(k5, 256, k5)] }, k5, k5, 256, by decide +kernel⟩

theorem witness_mask_zero : ∃ (c : Config) (x : Vector Byte 32), c.maskExceptions.lookup x = none ∧ hashVal c.hashOrder x = 0 :=
  ⟨Config.cfgA, Vector.replicate 32 0, rfl, by decide +kernel⟩

/-- Vector K5 has k = 11; the all-zero hash has k = 256. -/
theorem witness_conformance : ∃ (s s' : State) (k : Nat), s.cfg.maskExceptions.lookup s.h = none ∧ k = clz256 s.cfg.hashOrder s.h ∧
    k < 256 ∧ s'.cfg.maskExceptions.lookup s'.h = none ∧ 256 = clz256 s'.cfg.hashOrder s'.h :=
  ⟨{ State.reset with h := k5 }, State.reset, 11, rfl, by decide +kernel, by decide, rfl, by decide +kernel⟩

theorem witness_no_result_yet : ∃ s : State, s.status.done = false ∧ s.status.error = none := ⟨inFlight 0 [], rfl, rfl⟩

theorem witness_precise_error : ∃ (i : Instr) (s t : State) (c : ErrorCode), s.status.error = none ∧
    exec i s = .next t ∧ t.status.error = some c :=
  ⟨.pchk, State.reset, State.reset.raiseError .invalidParameter, .invalidParameter, rfl, rfl, rfl⟩

theorem empty_below (n : Nat) : Memory.below [] n := fun _ h => (List.not_mem_nil h).elim

/-- The reset state meets the invariant, whatever the host still has to do. -/
theorem waiting_inv (events : List HostEvent) : (waiting events).Inv :=
  ⟨(by decide : Config.cfgA.wf = true), nofun, nofun, nofun, rfl, Nat.zero_le 256, Memory.wf_nil, Memory.wf_nil, Memory.wf_nil,
    empty_below _, empty_below _, empty_below _⟩

theorem failed_inv (events : List HostEvent) : (failed events).Inv :=
  ⟨(by decide : Config.cfgA.wf = true), nofun, nofun, nofun, rfl, Nat.zero_le 256, Memory.wf_nil, Memory.wf_nil, Memory.wf_nil,
    empty_below _, empty_below _, empty_below _⟩

theorem witness_error_leaves_by_acknowledge : ∃ (s t : State) (c : ErrorCode), s.Inv ∧ s.status.error = some c ∧
    step s = .next t ∧ t.status.error ≠ some c :=
  ⟨failed [.write 32 0x004 4], _, .invalidParameter, failed_inv _, rfl, rfl, by decide⟩

theorem witness_error_leaves_by_reset : ∃ (s t : State) (c : ErrorCode), s.Inv ∧ s.status.error = some c ∧
    step s = .next t ∧ t.status.error ≠ some c :=
  ⟨failed [.reset], _, .invalidParameter, failed_inv _, rfl, rfl, by decide⟩

theorem witness_sameButScratch : ∃ s s' : State, s.SameButScratch s' ∧ s.v ≠ s'.v :=
  ⟨inFlight 0 [], { inFlight 0 [] with v := [(0, 1)] }, rfl, by decide⟩

theorem witness_wf_config : ∃ c : Config, c.wf = true := ⟨Config.cfgA, by decide⟩

theorem witness_invariant_step : ∃ s t : State, s.Inv ∧ step s = .next t :=
  ⟨waiting [.write 32 0x000 1], _, waiting_inv _, rfl⟩

theorem witness_wrb : ∃ (s : State) (off : Nat) (bytes : List Byte) (rest : List HostEvent), s.status.busy = false ∧
    off % 4 = 0 ∧ bytes.length % 4 = 0 ∧ off + bytes.length = 128 * s.cfg.rMax ∧
      s.pending = expandLine s.cfg.base (.wrb .buf off bytes) ++ rest :=
  ⟨waiting (expandLine 0 (.wrb .buf 0x3F8 [1, 2, 3, 4, 5, 6, 7, 8])), 0x3F8, [1, 2, 3, 4, 5, 6, 7, 8], [], rfl, by decide,
    by decide, by decide, rfl⟩

theorem witness_register_read (off : Nat)
    (_ : off ∈ [0x000, 0x004, 0x008, 0x00C, 0x010, 0x014, 0x018, 0x01C, 0x020, 0x024]) :
    ∃ (s : State) (rest : List HostEvent), s.status.busy = false ∧ s.pending = .read 32 (s.cfg.base + off) :: rest :=
  ⟨waiting [.read 32 (0 + off)], [], rfl, rfl⟩

theorem witness_run : ∃ (s : State) (i : Instr) (rest : List HostEvent), s.status.busy = false ∧ s.status.error = none ∧
    s.pending = expandLine s.cfg.base (.run i) ++ rest := ⟨waiting (expandLine 0 (.run .salsa)), .salsa, [], rfl, rfl, rfl⟩

end Sys2Proof.Tests
end

section
/-! PROOFS. Word arithmetic (R10) and the byte order primitives (R12). -/

namespace Sys2Proof.Machine

open Sys2Proof

/-! ## Left rotation (R10) -/

/-- The bits that a left shift of a word drops are its high ones. -/
theorem mul_two_pow_mod_word (a : Nat) {c : Nat} (hc : c ≤ 32) : a * 2 ^ c % 2 ^ 32 = 2 ^ c * (a % 2 ^ (32 - c)) := by
  rw [← Nat.mul_mod_mul_left, ← Nat.pow_add, Nat.add_sub_cancel' hc, Nat.mul_comm]

/-- The part that wraps around fits below the shifted part. -/
theorem wrapped_bits_lt (a : Word) {c : Nat} (hc : c ≤ 32) : a.toNat / 2 ^ (32 - c) < 2 ^ c := by
  rw [Nat.div_lt_iff_lt_mul (Nat.two_pow_pos _), ← Nat.pow_add, Nat.add_sub_cancel' hc]
  exact a.isLt

/-- The two parts share no bit, so their disjunction is their sum. -/
theorem toNat_rotl32 (a : Word) {c : Nat} (hc : c ≤ 32) :
    (rotl32 a c).toNat = a.toNat * 2 ^ c % 2 ^ 32 + a.toNat / 2 ^ (32 - c) := by
  have disjoint := Nat.two_pow_add_eq_or_of_lt (wrapped_bits_lt a hc) (a.toNat % 2 ^ (32 - c))
  rw [mul_two_pow_mod_word _ hc, disjoint, ← mul_two_pow_mod_word _ hc]
  simp [rotl32, Nat.shiftLeft_eq, Nat.shiftRight_eq_div_pow]

/-- Settles O5, by `toNat_rotl32`, which also covers the amounts 0 and 32. -/
theorem rotationIsTheFormulaOfR10 : Obligations.RotationIsTheFormulaOfR10 :=
  fun a _ _ hc => toNat_rotl32 a hc.le

/-! ## Byte order (R12) -/

theorem leNat_lt_pow_length (b : List Byte) : leNat b < 256 ^ b.length := by
  induction b with
  | nil => exact Nat.one_pos
  | cons x xs ih =>
    have hx := x.isLt
    simp only [leNat, List.length_cons, Nat.pow_succ]
    omega

/-- Four bytes fit a word, so `le32dec` loses nothing. -/
theorem toNat_le32dec (b : List Byte) : (le32dec b).toNat = leNat (b.take 4) := by
  have fits : leNat (b.take 4) < 256 ^ 4 :=
    (leNat_lt_pow_length _).trans_le (Nat.pow_le_pow_right (by decide) (List.length_take_le 4 b))
  exact (BitVec.toNat_ofNat ..).trans (Nat.mod_eq_of_lt fits)

theorem toNat_wordByte (w : Word) (i : Nat) : (wordByte w i).toNat = w.toNat / 2 ^ (8 * i) % 256 := by
  simp [wordByte, Nat.shiftRight_eq_div_pow]

theorem getElem?_le32enc (w : Word) {i : Nat} (hi : i < 4) : (le32enc w)[i]? = some (wordByte w i) := by
  interval_cases i <;> rfl

theorem leNat_le32enc (w : Word) : leNat (le32enc w) = w.toNat := by
  have hw := w.isLt
  simp only [le32enc, leNat, toNat_wordByte]
  omega

theorem le32dec_le32enc (w : Word) : le32dec (le32enc w) = w :=
  BitVec.eq_of_toNat_eq ((toNat_le32dec _).trans (leNat_le32enc w))

theorem eq_of_leNat_eq {b b' : List Byte} (hlen : b.length = b'.length) (h : leNat b = leNat b') : b = b' := by
  induction b generalizing b' with
  | nil => exact (List.length_eq_zero_iff.mp hlen.symm).symm
  | cons x xs ih =>
    cases b' with
    | nil => cases hlen
    | cons y ys =>
      have hx := x.isLt
      have hy := y.isLt
      simp only [leNat] at h
      have head : x = y := BitVec.eq_of_toNat_eq (by omega)
      have tail : xs = ys := ih (Nat.succ.inj hlen) (by omega)
      rw [head, tail]

theorem le32enc_le32dec {b : List Byte} (hlen : b.length = 4) : le32enc (le32dec b) = b := by
  apply eq_of_leNat_eq ((length_le32enc _).trans hlen.symm)
  rw [leNat_le32enc, toNat_le32dec, List.take_of_length_le hlen.le]

/-- Settles O4: the values by evaluating `leNat`, the round trips because four bytes and a word carry the same number. -/
theorem littleEndianPrimitivesRoundTrip : Obligations.LittleEndianPrimitivesRoundTrip := by
  refine ⟨fun b0 b1 b2 b3 => ?_, fun w i hi => getElem?_le32enc w hi, fun b0 b1 b2 b3 b4 b5 b6 b7 => ?_,
    le32dec_le32enc, fun b0 b1 b2 b3 => le32enc_le32dec rfl⟩
  · simp only [toNat_le32dec, List.take, leNat]
    omega
  · simp only [le64dec, List.take, leNat]
    omega

end Sys2Proof.Machine
end

section
/-! PROOFS. The commands that check before they run: what a passed check guarantees (R146, R157), and an equation for each way
the command can end. -/

namespace Sys2Proof.Machine

open Sys2Proof

theorem le_rMax_of_rCheck_ok {c : Config} {r : Nat} (h : rCheck c r = .ok ()) : r ≤ c.rMax := by
  unfold rCheck at h
  split_ifs at h with _ _ _ hr
  exact Nat.le_of_not_gt hr

/-- Inside the block's memories (R157), and with at least one iteration for ROMix (R155). -/
theorem bounds_of_paramCheck_ok {c : Config} {n r p : Nat} (h : paramCheck c n r p = .ok ()) :
    1 ≤ n ∧ r ≤ c.rMax ∧ 128 * r * n ≤ c.vBytes := by
  unfold paramCheck at h
  split_ifs at h with _ hn _ _ hmem
  omega

theorem execBmix_error {s : State} {e : ErrorCode} (h : rCheck s.cfg s.r.toNat = .error e) :
    execBmix s = .next (s.raiseError e) := by
  simp only [execBmix, h]

theorem execBmix_ok {s : State} (h : rCheck s.cfg s.r.toNat = .ok ()) :
    execBmix s = .next
      (s.writeBlockMix (blockMixChain (s.loadBuf (128 * s.r.toNat)) s.r.toNat) s.r.toNat).finish := by
  simp only [execBmix, h]

theorem execRomix_error {s : State} {e : ErrorCode} (h : paramCheck s.cfg s.n.toNat s.r.toNat 1 = .error e) :
    execRomix s = .next (s.raiseError e) := by
  simp only [execRomix, h]

theorem execRomix_ok {s : State} (h : paramCheck s.cfg s.n.toNat s.r.toNat 1 = .ok ()) :
    execRomix s = .next
      (s.writeRomix (romix s.cfg (s.fresh .v) s.v (s.loadBuf (128 * s.r.toNat)) s.n.toNat s.r.toNat)).finish := by
  simp only [execRomix, h]

theorem execPchk_error {s : State} {e : ErrorCode}
    (h : paramCheck s.cfg s.n.toNat s.r.toNat s.p.toNat = .error e) : execPchk s = .next (s.raiseError e) := by
  simp only [execPchk, h]

theorem execPchk_ok {s : State} (h : paramCheck s.cfg s.n.toNat s.r.toNat s.p.toNat = .ok ()) :
    execPchk s = .next s.finish := by
  simp only [execPchk, h]

theorem execHsel_out_of_range {s : State} (h : tableRow s.cfg (tableIndex s.cfg s.diff) = none) :
    execHsel s = .next (s.raiseError .invalidParameter) := by
  simp only [execHsel, h]

theorem execHsel_too_wide {s : State} {row : TableRow} (h : tableRow s.cfg (tableIndex s.cfg s.diff) = some row)
    (hw : 1024 * row.multiplier.toNat ≥ 2 ^ 32) : execHsel s = .next (s.raiseError .resourceExhausted) := by
  simp only [execHsel, h, if_pos hw]

theorem execHsel_ok {s : State} {row : TableRow} (h : tableRow s.cfg (tableIndex s.cfg s.diff) = some row)
    (hw : ¬ 1024 * row.multiplier.toNat ≥ 2 ^ 32) :
    execHsel s = .next (s.selectRow (tableIndex s.cfg s.diff).toNat row).finish := by
  simp only [execHsel, h, if_neg hw]

end Sys2Proof.Machine
end

section
/-! PROOFS. The hidden memories and words influence no step (R20, R43, R44). -/

namespace Sys2Proof.Machine

open Sys2Proof

/-- Both steps answer a next state, and the two differ at most in XY, V, x and w. -/
def NextSameButScratch (o o' : Host.Outcome State Fault Refusal) : Prop :=
  ∃ t t' : State, o = .next t ∧ o' = .next t' ∧ t.SameButScratch t'

theorem State.SameButScratch.nextSame {t t' : State} (h : t.SameButScratch t') :
    NextSameButScratch (.next t) (.next t') := ⟨t, t', rfl, rfl, h⟩

/-- The second state is the first with other scratch contents. -/
theorem State.SameButScratch.exists_eq {s s' : State} (h : s.SameButScratch s') :
    ∃ xy v dp, s' = { s with xy := xy, v := v, dp := dp } := ⟨_, _, _, h⟩

theorem State.SameButScratch.issue {s s' : State} (h : s.SameButScratch s') (w : Word) :
    (s.issue w).SameButScratch (s'.issue w) := by
  obtain ⟨xy, v, dp, rfl⟩ := h.exists_eq
  cases herr : s.status.error with
  | none =>
    rw [State.issue_accepted herr,
      State.issue_accepted (s := { s with xy := xy, v := v, dp := dp }) herr]
    rfl
  | some c =>
    rw [State.issue_dropped herr,
      State.issue_dropped (s := { s with xy := xy, v := v, dp := dp }) herr]
    exact h

theorem State.SameButScratch.writePlace {s s' : State} (h : s.SameButScratch s') (p : Place) (w : Word) :
    (s.writePlace p w).SameButScratch (s'.writePlace p w) := by
  obtain ⟨xy, v, dp, rfl⟩ := h.exists_eq
  cases p with
  | reg name =>
    cases name with
    | cmd => exact h.issue w
    | _ => rfl
  | window name t => cases name <;> rfl
  | reserved => rfl
  | unmapped => rfl

theorem State.SameButScratch.take {s s' : State} (h : s.SameButScratch s') (rest : List HostEvent) :
    (s.take rest).SameButScratch (s'.take rest) := by
  obtain ⟨xy, v, dp, rfl⟩ := h.exists_eq
  rfl

theorem State.SameButScratch.respond {s s' : State} (h : s.SameButScratch s') (r : BusResponse) :
    (s.respond r).SameButScratch (s'.respond r) := by
  obtain ⟨xy, v, dp, rfl⟩ := h.exists_eq
  rfl

/-- No offset of the map exposes the scratch. -/
theorem State.SameButScratch.readPlace {s s' : State} (h : s.SameButScratch s') (p : Place) :
    s'.readPlace p = s.readPlace p := by
  obtain ⟨xy, v, dp, rfl⟩ := h.exists_eq
  cases p with
  | reg name => cases name <;> rfl
  | window name t => cases name <;> rfl
  | reserved => rfl
  | unmapped => rfl

theorem State.SameButScratch.hostStep {s s' : State} (h : s.SameButScratch s') (e : HostEvent)
    (rest : List HostEvent) : (s.hostStep e rest).SameButScratch (s'.hostStep e rest) := by
  have hcfg : s'.cfg = s.cfg := by rw [h]
  cases e with
  | read width addr =>
    simp only [State.hostStep, hcfg, h.readPlace]
    exact (h.take rest).respond _
  | write width addr data =>
    simp only [State.hostStep, hcfg]
    exact ((h.take rest).writePlace _ data).respond _
  | poll =>
    have hst : s'.status = s.status := by rw [h]
    simp only [State.hostStep, hst]
    exact (h.take _).respond _
  | reset =>
    obtain ⟨xy, v, dp, rfl⟩ := h.exists_eq
    rfl

theorem State.SameButScratch.finish {s s' : State} (h : s.SameButScratch s') :
    s.finish.SameButScratch s'.finish := by
  obtain ⟨xy, v, dp, rfl⟩ := h.exists_eq
  rfl

theorem State.SameButScratch.raiseError {s s' : State} (h : s.SameButScratch s') (c : ErrorCode) :
    (s.raiseError c).SameButScratch (s'.raiseError c) := by
  obtain ⟨xy, v, dp, rfl⟩ := h.exists_eq
  rfl

/-- Of what ROMix computes only X reaches more than the scratch. -/
theorem State.SameButScratch.writeRomix {s s' : State} (h : s.SameButScratch s') {m m' : Mixing} (hx : m'.x = m.x) :
    (s.writeRomix m).SameButScratch (s'.writeRomix m') := by
  obtain ⟨xy, v, dp, rfl⟩ := h.exists_eq
  simp only [State.SameButScratch, State.writeRomix, hx]
  rfl

/-- ROMIX leaves the same BUF whatever V held: each entry it reads was written by the same command (R162). -/
theorem State.SameButScratch.execRomix {s s' : State} (h : s.SameButScratch s') :
    NextSameButScratch (execRomix s) (execRomix s') := by
  obtain ⟨xy, v, dp, rfl⟩ := h.exists_eq
  cases hchk : paramCheck s.cfg s.n.toNat s.r.toNat 1 with
  | error c => exact ⟨_, _, execRomix_error hchk, execRomix_error hchk, h.raiseError c⟩
  | ok =>
    obtain ⟨hn, -, -⟩ := bounds_of_paramCheck_ok hchk
    refine ⟨_, _, execRomix_ok hchk, execRomix_ok hchk, (h.writeRomix ?_).finish⟩
    rw [romix_x _ _ _ _ _ _ hn (State.length_loadBuf _ _), romix_x _ _ _ _ _ _ hn (State.length_loadBuf _ _)]
    rfl

theorem State.SameButScratch.exec {s s' : State} (h : s.SameButScratch s') (i : Instr) :
    NextSameButScratch (exec i s) (Machine.exec i s') := by
  obtain ⟨xy, v, dp, rfl⟩ := h.exists_eq
  cases i with
  | romix => exact h.execRomix
  | bmix =>
    cases hchk : rCheck s.cfg s.r.toNat with
    | error c => exact ⟨_, _, execBmix_error hchk, execBmix_error hchk, h.raiseError c⟩
    | ok => exact ⟨_, _, execBmix_ok hchk, execBmix_ok hchk, rfl⟩
  | pchk =>
    cases hchk : paramCheck s.cfg s.n.toNat s.r.toNat s.p.toNat with
    | error c => exact ⟨_, _, execPchk_error hchk, execPchk_error hchk, h.raiseError c⟩
    | ok => exact ⟨_, _, execPchk_ok hchk, execPchk_ok hchk, h.finish⟩
  | hsel =>
    cases hrow : tableRow s.cfg (tableIndex s.cfg s.diff) with
    | none => exact ⟨_, _, execHsel_out_of_range hrow, execHsel_out_of_range hrow, h.raiseError _⟩
    | some row =>
      by_cases hw : 1024 * row.multiplier.toNat ≥ 2 ^ 32
      · exact ⟨_, _, execHsel_too_wide hrow hw, execHsel_too_wide hrow hw, h.raiseError _⟩
      · exact ⟨_, _, execHsel_ok hrow hw, execHsel_ok hrow hw, rfl⟩
  | salsa | hxor | hmask | hcomb | wipe => exact State.SameButScratch.nextSame rfl

theorem State.SameButScratch.completion {s s' : State} (h : s.SameButScratch s') :
    NextSameButScratch (completion s) (completion s') := by
  have hcurw : s'.curw = s.curw := by rw [h]
  simp only [Machine.completion, hcurw]
  cases decode s.curw with
  | ok i => exact h.exec i
  | error e => exact (h.raiseError .illegalCommand).nextSame

theorem State.SameButScratch.turn_eq {s s' : State} (h : s.SameButScratch s') : s'.turn = s.turn := by
  obtain ⟨xy, v, dp, rfl⟩ := h.exists_eq
  rfl

theorem State.SameButScratch.step {s s' : State} (h : s.SameButScratch s') : NextSameButScratch (step s) (step s') := by
  simp only [Machine.step, h.turn_eq]
  cases s.turn with
  | sequencer => exact h.completion
  | host e rest => exact (h.hostStep e rest).nextSame
  | idle => exact h.nextSame

/-- Settles O54, by one lemma per operation; the one command that reads scratch, ROMIX, reads only what it wrote. -/
theorem scratchContentsInfluenceNothing : Obligations.ScratchContentsInfluenceNothing :=
  fun _ _ h => h.step

end Sys2Proof.Machine
end

section
/-! PROOFS. The map of R24 read backwards: where an access that reaches a given place was made (R64). -/

namespace Sys2Proof.Machine

open Sys2Proof

theorem exists_reg_at {off : Nat} (h4 : off % 4 = 0) (h : off < 0x028) : ∃ name : RegName, off = name.offset := by
  obtain ⟨q, rfl⟩ := Nat.dvd_of_mod_eq_zero h4
  have hq : q < 10 := by omega
  interval_cases q
  exacts [⟨.cmd, rfl⟩, ⟨.status, rfl⟩, ⟨.ie, rfl⟩, ⟨.n, rfl⟩, ⟨.r, rfl⟩, ⟨.p, rfl⟩, ⟨.mult, rfl⟩, ⟨.diff, rfl⟩,
    ⟨.tblidx, rfl⟩, ⟨.k, rfl⟩]

/-- The map of R24 read backwards, for aligned offsets. -/
theorem place_cases (c : Config) {off : Nat} (h4 : off % 4 = 0) :
    (∃ name, off = RegName.offset name ∧ place c off = .reg name) ∨
    (∃ name t, off = WindowName.offset name + t ∧ (name = .buf → t < 128 * c.rMax) ∧ place c off = .window name t) ∨
    place c off = .reserved ∨ place c off = .unmapped := by
  have window : ∀ (name : WindowName) (n : Nat), name.offset ≤ off → off < name.offset + n →
      (name = .buf → n ≤ 128 * c.rMax) →
      (∀ t < n, place c (name.offset + t) = .window name t) →
      ∃ name t, off = WindowName.offset name + t ∧ (name = .buf → t < 128 * c.rMax) ∧ place c off = .window name t := by
    intro name n hlo hhi hbuf hplace
    obtain ⟨t, rfl⟩ := Nat.exists_eq_add_of_le hlo
    have ht : t < n := Nat.lt_of_add_lt_add_left hhi
    exact ⟨name, t, rfl, fun hn => ht.trans_le (hbuf hn), hplace t ht⟩
  by_cases h028 : off < 0x028
  · obtain ⟨name, rfl⟩ := exists_reg_at h4 h028
    exact .inl ⟨name, rfl, place_reg c name⟩
  by_cases h040 : off < 0x040
  · exact .inr (.inr (.inl (place_reserved c off (.inl ⟨by omega, h040⟩))))
  by_cases h090 : off < 0x090
  · exact .inr (.inl (window .hdr 80 (Nat.le_of_not_lt h040) h090 nofun (place_hdr c)))
  by_cases h0E0 : off < 0x0E0
  · exact .inr (.inl (window .s 80 (Nat.le_of_not_lt h090) h0E0 nofun (place_s c)))
  by_cases h100 : off < 0x100
  · exact .inr (.inl (window .h 32 (Nat.le_of_not_lt h0E0) h100 nofun (place_h c)))
  by_cases h120 : off < 0x120
  · exact .inr (.inl (window .s2 32 (Nat.le_of_not_lt h100) h120 nofun (place_s2 c)))
  by_cases h140 : off < 0x140
  · exact .inr (.inl (window .mask 32 (Nat.le_of_not_lt h120) h140 nofun (place_mask c)))
  by_cases h160 : off < 0x160
  · exact .inr (.inl (window .out 32 (Nat.le_of_not_lt h140) h160 nofun (place_out c)))
  by_cases h1000 : off < 0x1000
  · exact .inr (.inr (.inl (place_reserved c off (.inr ⟨by omega, h1000⟩))))
  by_cases hend : off < 0x1000 + 128 * c.rMax
  · exact .inr (.inl (window .buf (128 * c.rMax) (Nat.le_of_not_lt h1000) hend (fun _ => le_rfl) (place_buf c)))
  · exact .inr (.inr (.inr (place_unmapped c off (Nat.le_of_not_lt hend))))

/-- What an access reaches is nothing, or what stands at its aligned offset from BASE (R64). -/
theorem accessPlace_cases (c : Config) (width addr : Nat) :
    accessPlace c width addr = .unmapped ∨
      ∃ off, off % 4 = 0 ∧ width = 32 ∧ addr = c.base + off ∧ accessPlace c width addr = place c off := by
  by_cases hbase : addr < c.base
  · exact .inl (if_pos hbase)
  · obtain ⟨off, rfl⟩ := Nat.exists_eq_add_of_le (Nat.le_of_not_lt hbase)
    by_cases h : width ≠ 32 ∨ off % 4 ≠ 0
    · exact .inl (accessPlace_unmapped c width off (by omega))
    · obtain ⟨rfl, h4⟩ : width = 32 ∧ off % 4 = 0 := by omega
      exact .inr ⟨off, h4, rfl, rfl, accessPlace_base c off h4⟩

/-- A register is reached by 32-bit accesses at its own offset only. -/
theorem access_of_accessPlace_reg {c : Config} {width addr : Nat} {name : RegName}
    (h : accessPlace c width addr = .reg name) : width = 32 ∧ addr = c.base + name.offset := by
  rcases accessPlace_cases c width addr with hu | ⟨off, h4, rfl, rfl, hp⟩
  · cases hu.symm.trans h
  rw [hp] at h
  rcases place_cases c h4 with ⟨name', rfl, hp'⟩ | ⟨_, _, -, -, hp'⟩ | hp' | hp' <;> cases hp'.symm.trans h
  exact ⟨rfl, rfl⟩

/-- The word of BUF that an access reaches lies in BUF (R24, R41). -/
theorem bufWord_le_of_accessPlace {c : Config} {width addr t : Nat} (h : accessPlace c width addr = .window .buf t) :
    t + 4 ≤ 128 * c.rMax := by
  rcases accessPlace_cases c width addr with hu | ⟨off, h4, rfl, rfl, hp⟩
  · cases hu.symm.trans h
  rw [hp] at h
  rcases place_cases c h4 with ⟨_, -, hp'⟩ | ⟨_, _, hoff, ht, hp'⟩ | hp' | hp' <;> cases hp'.symm.trans h
  have := ht rfl
  simp only [WindowName.offset] at hoff
  omega

end Sys2Proof.Machine
end

section
/-! PROOFS. Each operation keeps the invariant, and so does every step (R26, R35, R41, R43, R77, R222). -/

namespace Sys2Proof.Machine

open Sys2Proof

/-! ## The memories and the datapath -/

theorem State.Inv.storeBuf {s : State} (h : s.Inv) {a : Nat} {bytes : List Byte}
    (hb : a + bytes.length ≤ 128 * s.cfg.rMax) : (s.storeBuf a bytes).Inv :=
  { h with buf_wf := Memory.wf_store h.buf_wf a bytes, buf_below := Memory.below_store h.buf_below a bytes hb }

theorem State.Inv.storeXy {s : State} (h : s.Inv) {a : Nat} {bytes : List Byte}
    (hb : a + bytes.length ≤ 256 * s.cfg.rMax) : (s.storeXy a bytes).Inv :=
  { h with xy_wf := Memory.wf_store h.xy_wf a bytes, xy_below := Memory.below_store h.xy_below a bytes hb }

theorem State.Inv.setV {s : State} (h : s.Inv) {m : Memory} (hw : Memory.wf m) (hb : Memory.below m s.cfg.vBytes) :
    (s.setV m).Inv :=
  { h with v_wf := hw, v_below := hb }

theorem State.Inv.setDatapath {s : State} (h : s.Inv) (d : Datapath) : (s.setDatapath d).Inv := { h with }

/-- What the small buffers hold is free. -/
theorem State.Inv.withBuffers {s : State} (h : s.Inv) (hdr sbuf : Vector Byte 80) (hash s2 mask out : Vector Byte 32) :
    State.Inv { s with hdr := hdr, sbuf := sbuf, h := hash, s2 := s2, mask := mask, out := out } := { h with }

/-- BlockMix writes 128·r bytes to BUF and as many to XY. -/
theorem State.Inv.writeBlockMix {s : State} (h : s.Inv) {chain : List Datapath} {r : Nat} (hc : chain.length = 2 * r)
    (hr : r ≤ s.cfg.rMax) : (s.writeBlockMix chain r).Inv := by
  have hbuf : 0 + (deinterleave (scratchY chain) r).length ≤ 128 * s.cfg.rMax := by
    rw [length_deinterleave _ _ hc]; omega
  have hxy : 0 + (scratchY chain).flatten.length ≤ 256 * s.cfg.rMax := by
    rw [length_scratchY_flatten]; omega
  exact ((h.storeBuf hbuf).storeXy hxy).setDatapath _

/-- ROMix writes 128·r bytes to BUF, twice as many to XY, and N entries of 128·r bytes to V. -/
theorem State.Inv.writeRomix {s : State} (h : s.Inv) {m : Mixing} {r : Nat} (hx : m.x.length = 128 * r)
    (hc : m.chain.length = 2 * r) (hr : r ≤ s.cfg.rMax) (hw : Memory.wf m.v) (hv : Memory.below m.v s.cfg.vBytes) :
    (s.writeRomix m).Inv := by
  have hbuf : 0 + m.x.length ≤ 128 * s.cfg.rMax := by omega
  have hxy : 0 + (m.x ++ (scratchY m.chain).flatten).length ≤ 256 * s.cfg.rMax := by
    rw [List.length_append, length_scratchY_flatten]; omega
  exact (((h.storeBuf hbuf).setV hw hv).storeXy hxy).setDatapath _

theorem State.Inv.zeroBuffers {s : State} (h : s.Inv) : s.zeroBuffers.Inv :=
  { h with
    k_range := Nat.zero_le _
    buf_wf := Memory.wf_store h.buf_wf _ _
    xy_wf := Memory.wf_store h.xy_wf _ _
    v_wf := Memory.wf_store h.v_wf _ _
    buf_below := Memory.below_store h.buf_below _ _ (by simp)
    xy_below := Memory.below_store h.xy_below _ _ (by simp)
    v_below := Memory.below_store h.v_below _ _ (by simp) }

/-! ## K (R35) -/

theorem clz256_le (o : HashOrder) (x : Vector Byte 32) : clz256 o x ≤ 256 := by
  unfold clz256
  split <;> omega

/-- K is a count from 0 to 256 for every `MaskOf` (R7, R187). -/
theorem maskOf_count_le (c : Config) (x : Vector Byte 32) : (maskOf c x).1.toNat ≤ 256 := by
  unfold maskOf
  split
  case h_1 k m _ => exact (BitVec.toNat_ofNat ..).trans_le ((Nat.mod_le _ _).trans (Nat.le_of_lt_succ k.isLt))
  case h_2 => exact (BitVec.toNat_ofNat ..).trans_le ((Nat.mod_le _ _).trans (clz256_le _ _))

theorem State.Inv.setMask {s : State} (h : s.Inv) : s.setMask.Inv := { h with k_range := maskOf_count_le _ _ }

/-! ## The end of a command -/

/-- A command in flight has no result yet, so its completion sets DONE alone (R26). -/
theorem State.Inv.finish {s : State} (h : s.Inv) (hb : s.status.busy = true) : s.finish.Inv :=
  { h with
    busy_clean := by simp
    done_clean := fun _ => (h.busy_clean hb).2 }

/-- A command in flight has no result yet, so its error stands alone (R26). -/
theorem State.Inv.raiseError {s : State} (h : s.Inv) (hb : s.status.busy = true) {c : ErrorCode}
    (hc : c ≠ .outputTooLarge) : (s.raiseError c).Inv :=
  { h with
    busy_clean := by simp
    done_clean := by simp [(h.busy_clean hb).1]
    no_output_too_large := by simpa using hc }

/-! ## Completion steps -/

/-- The outcome is a next state that meets the invariant and has the parameters of `s`. -/
def KeepsInv (s : State) (o : Host.Outcome State Fault Refusal) : Prop := ∃ t, o = .next t ∧ t.Inv ∧ t.cfg = s.cfg

/-- SALSA's 64 bytes lie in BUF because R_MAX is at least 1 (R7). -/
theorem State.Inv.one_le_rMax {s : State} (h : s.Inv) : 1 ≤ s.cfg.rMax := by
  have hwf := h.cfg_wf
  simp only [Config.wf, Bool.and_eq_true, decide_eq_true_eq] at hwf
  omega

theorem State.Inv.execSalsa {s : State} (h : s.Inv) (hb : s.status.busy = true) : KeepsInv s (execSalsa s) := by
  have hbuf : 0 + (salsaEval (s.loadBuf 64)).output.length ≤ 128 * s.cfg.rMax := by
    have := h.one_le_rMax
    rw [length_output]; omega
  exact ⟨_, rfl, ((h.storeBuf hbuf).setDatapath _).finish hb, rfl⟩

theorem State.Inv.execBmix {s : State} (h : s.Inv) (hb : s.status.busy = true) : KeepsInv s (execBmix s) := by
  cases hchk : rCheck s.cfg s.r.toNat with
  | error c => exact ⟨_, execBmix_error hchk, h.raiseError hb (rCheck_code hchk), rfl⟩
  | ok =>
    exact ⟨_, execBmix_ok hchk,
      (h.writeBlockMix (length_blockMixChain _ _) (le_rMax_of_rCheck_ok hchk)).finish hb, rfl⟩

theorem State.Inv.execRomix {s : State} (h : s.Inv) (hb : s.status.busy = true) : KeepsInv s (execRomix s) := by
  cases hchk : paramCheck s.cfg s.n.toNat s.r.toNat 1 with
  | error c => exact ⟨_, execRomix_error hchk, h.raiseError hb (paramCheck_code hchk), rfl⟩
  | ok =>
    obtain ⟨hn, hr, hv⟩ := bounds_of_paramCheck_ok hchk
    have hlen := s.length_loadBuf (128 * s.r.toNat)
    have hwrite := h.writeRomix (length_romix_x s.cfg (s.fresh .v) s.v _ _ _ hn hlen)
      (length_romix_chain _ _ _ _ _ _ hn) hr (wf_romix h.v_wf _ _ _ _ _) (below_romix h.v_below _ _ _ _ _ hlen hv)
    exact ⟨_, execRomix_ok hchk, hwrite.finish hb, rfl⟩

theorem State.Inv.execPchk {s : State} (h : s.Inv) (hb : s.status.busy = true) : KeepsInv s (execPchk s) := by
  cases hchk : paramCheck s.cfg s.n.toNat s.r.toNat s.p.toNat with
  | error c => exact ⟨_, execPchk_error hchk, h.raiseError hb (paramCheck_code hchk), rfl⟩
  | ok => exact ⟨_, execPchk_ok hchk, h.finish hb, rfl⟩

theorem State.Inv.selectRow {s : State} (h : s.Inv) (idx : Nat) (row : TableRow) : (s.selectRow idx row).Inv := { h with }

theorem State.Inv.execHsel {s : State} (h : s.Inv) (hb : s.status.busy = true) : KeepsInv s (execHsel s) := by
  cases hrow : tableRow s.cfg (tableIndex s.cfg s.diff) with
  | none => exact ⟨_, execHsel_out_of_range hrow, h.raiseError hb (by decide), rfl⟩
  | some row =>
    by_cases hw : 1024 * row.multiplier.toNat ≥ 2 ^ 32
    · exact ⟨_, execHsel_too_wide hrow hw, h.raiseError hb (by decide), rfl⟩
    · exact ⟨_, execHsel_ok hrow hw, (h.selectRow _ row).finish hb, rfl⟩

theorem State.Inv.exec {s : State} (h : s.Inv) (hb : s.status.busy = true) (i : Instr) : KeepsInv s (exec i s) := by
  cases i with
  | salsa => exact h.execSalsa hb
  | bmix => exact h.execBmix hb
  | romix => exact h.execRomix hb
  | pchk => exact h.execPchk hb
  | hsel => exact h.execHsel hb
  | hxor => exact ⟨_, rfl, (h.withBuffers _ _ _ _ _ _).finish hb, rfl⟩
  | hmask => exact ⟨_, rfl, h.setMask.finish hb, rfl⟩
  | hcomb => exact ⟨_, rfl, (h.setMask.withBuffers _ _ _ _ _ _).finish hb, rfl⟩
  | wipe => exact ⟨_, rfl, h.zeroBuffers.finish hb, rfl⟩

theorem State.Inv.completion {s : State} (h : s.Inv) (hb : s.status.busy = true) : KeepsInv s (completion s) := by
  unfold Machine.completion
  cases decode s.curw with
  | ok i => exact h.exec hb i
  | error e => exact ⟨_, rfl, h.raiseError hb (by decide), rfl⟩

/-! ## Reset -/

theorem inv_resetOf {c : Config} (h : c.wf = true) (j : Nat) : (State.resetOf c j).Inv where
  cfg_wf := h
  busy_clean := by simp
  done_clean := by simp
  no_output_too_large := by simp
  op_latched := rfl
  k_range := Nat.zero_le _
  buf_wf := Memory.wf_nil
  xy_wf := Memory.wf_nil
  v_wf := Memory.wf_nil
  buf_below := by simp
  xy_below := by simp
  v_below := by simp

theorem State.Inv.applyReset {s : State} (h : s.Inv) : s.applyReset.Inv := { inv_resetOf h.cfg_wf (s.resets + 1) with }

/-- Settles O55, by `inv_resetOf`. -/
theorem resetMeetsTheInvariant : Obligations.ResetMeetsTheInvariant :=
  ⟨inv_resetOf (by decide) 0, fun _ j h => inv_resetOf h j⟩

/-! ## Events of the host -/

theorem State.Inv.take {s : State} (h : s.Inv) (rest : List HostEvent) : (s.take rest).Inv := { h with }

theorem State.Inv.respond {s : State} (h : s.Inv) (r : BusResponse) : (s.respond r).Inv := { h with }

theorem State.Inv.acknowledge {s : State} (h : s.Inv) (v : Word) : (s.acknowledge v).Inv :=
  { h with
    busy_clean := fun hb => by simp [h.busy_clean hb]
    done_clean := by simp +contextual [h.done_clean]
    no_output_too_large := by simp [h.no_output_too_large] }

theorem State.Inv.issue {s : State} (h : s.Inv) (w : Word) : (s.issue w).Inv := by
  cases herr : s.status.error with
  | some c => rwa [State.issue_dropped herr]
  | none =>
    rw [State.issue_accepted herr]
    exact { h with
      busy_clean := fun _ => ⟨rfl, herr⟩
      done_clean := by simp
      op_latched := rfl }

theorem State.Inv.writeReg {s : State} (h : s.Inv) (name : RegName) (v : Word) : (s.writeReg name v).Inv := by
  cases name with
  | cmd => exact h.issue v
  | status => exact h.acknowledge v
  | mult | tblidx | k => exact h
  | ie | n | r | p | diff => exact { h with }

/-- Only a window word of BUF can leave the memory it is written to. -/
theorem State.Inv.writeWindow {s : State} (h : s.Inv) {name : WindowName} {t : Nat}
    (ht : name = .buf → t + 4 ≤ 128 * s.cfg.rMax) (v : Word) : (s.writeWindow name t v).Inv := by
  cases name with
  | buf => exact h.storeBuf (ht rfl)
  | mask | out => exact h
  | hdr | s | h | s2 => exact h.withBuffers _ _ _ _ _ _

theorem State.Inv.writePlace {s : State} (h : s.Inv) (width addr : Nat) (v : Word) :
    (s.writePlace (accessPlace s.cfg width addr) v).Inv := by
  cases hp : accessPlace s.cfg width addr with
  | reg name => exact h.writeReg name v
  | window name t => exact h.writeWindow (fun hn => bufWord_le_of_accessPlace (hn ▸ hp)) v
  | reserved | unmapped => exact h

@[simp] theorem State.issue_cfg (s : State) (w : Word) : (s.issue w).cfg = s.cfg := by
  unfold State.issue; split <;> rfl

@[simp] theorem State.writeReg_cfg (s : State) (name : RegName) (v : Word) : (s.writeReg name v).cfg = s.cfg := by
  cases name with
  | cmd => exact s.issue_cfg v
  | _ => rfl

@[simp] theorem State.writePlace_cfg (s : State) (p : Place) (v : Word) : (s.writePlace p v).cfg = s.cfg := by
  cases p with
  | reg name => exact s.writeReg_cfg name v
  | window name t => exact s.writeWindow_cfg name t v
  | reserved | unmapped => rfl

theorem State.Inv.hostStep {s : State} (h : s.Inv) (e : HostEvent) (rest : List HostEvent) :
    KeepsInv s (.next (s.hostStep e rest)) := by
  cases e with
  | read width addr => exact ⟨_, rfl, (h.take rest).respond _, rfl⟩
  | write width addr data =>
    exact ⟨_, rfl, ((h.take rest).writePlace width addr data).respond _, State.writePlace_cfg _ _ _⟩
  | poll => exact ⟨_, rfl, (h.take _).respond _, rfl⟩
  | reset => exact ⟨_, rfl, (h.take rest).applyReset, rfl⟩

theorem State.Inv.step {s : State} (h : s.Inv) : KeepsInv s (step s) := by
  rcases step_eq s with ⟨hturn, hstep⟩ | ⟨e, rest, -, -, hstep⟩ | ⟨-, -, -, hstep⟩
  · obtain ⟨hb, -⟩ := (turn_sequencer_iff s).mp hturn
    exact hstep ▸ h.completion hb
  · exact hstep ▸ h.hostStep e rest
  · exact ⟨s, hstep, h, rfl⟩

/-- Settles O56, by one lemma per operation of the step. -/
theorem stepKeepsTheInvariant : Obligations.StepKeepsTheInvariant := by
  intro s t h ht
  obtain ⟨u, hu, hinv, hcfg⟩ := h.step
  obtain rfl := Host.Outcome.next.inj (ht.symm.trans hu)
  exact ⟨hinv, hcfg⟩

end Sys2Proof.Machine
end

section
/-! PROOFS. STATUS: its word (R26), a host write to it (R27), and how long an error stays (R232). -/

namespace Sys2Proof.Machine

open Sys2Proof

/-! ## The word of STATUS (R26) -/

/-- Which field each bit of the STATUS word belongs to. -/
theorem Status.getLsbD_word (st : Status) (i : Nat) :
    st.word.getLsbD i =
      if i < 1 then st.busy
      else if i < 2 then st.done
      else if i < 3 then st.errorBit
      else if i < 8 then false
      else if i < 12 then st.errcode.getLsbD (i - 8)
      else if i < 16 then false
      else st.op.getLsbD (i - 16) := by
  have concatenation : st.word.getLsbD i =
      ((0 : BitVec 8) ++ st.op ++ (0 : BitVec 4) ++ st.errcode ++ (0 : BitVec 5) ++
        BitVec.ofBool st.errorBit ++ BitVec.ofBool st.done ++ BitVec.ofBool st.busy).getLsbD i := rfl
  rw [concatenation]
  simp only [BitVec.getLsbD_append]
  rcases Nat.lt_or_ge i 24 with hi | hi
  · interval_cases i <;> simp
  · rw [BitVec.getLsbD_of_ge st.op (i - 16) (by omega)]
    repeat rw [if_neg (by omega)]
    exact BitVec.getLsbD_zero

theorem Status.errcode_eq (st : Status) :
    st.errcode =
      (match st.error with
        | none => 0
        | some .invalidParameter => 1
        | some .outputTooLarge => 2
        | some .resourceExhausted => 3
        | some .illegalCommand => 4) := by
  unfold Status.errcode
  rcases st.error with _ | c
  · rfl
  · cases c <;> rfl

/-- Settles O12: each field of the word is read off bit by bit. -/
theorem statusWordHoldsTheFieldsOfR26 : Obligations.StatusWordHoldsTheFieldsOfR26 := by
  intro st
  refine ⟨st.getLsbD_word 0, st.getLsbD_word 1, st.getLsbD_word 2, ?_, ?_, ?_, ?_, Eq.trans ?_ st.errcode_eq⟩
  all_goals
    ext i hi
    rw [BitVec.getElem_extractLsb', st.getLsbD_word]
    interval_cases i <;> simp

/-! ## Reset (R46) -/

/-- Settles O15: every value is the one `State.resetOf` writes out. -/
theorem resetLeavesTheValuesOfR46 : Obligations.ResetLeavesTheValuesOfR46 := by
  rintro c j s rfl
  have word_zero : (⟨false, false, none, 0⟩ : Status).word = 0 := by decide
  refine ⟨word_zero, rfl, rfl, rfl, rfl, rfl, rfl, rfl, rfl, rfl, fun i => ?_, fun i => ?_, rfl, word_zero⟩ <;> simp

/-! ## A host write to STATUS (R27) -/

/-- The write is performed at once, a command in flight or not (R71). -/
theorem step_writeStatus {s : State} {v : Word} {rest : List HostEvent}
    (hp : s.pending = .write 32 (s.cfg.base + 0x004) v :: rest) (hm : s.status.busy = false ∨ 0 < s.delay) :
    step s = .next (((s.take rest).acknowledge v).respond .done) := by
  have hplace : accessPlace s.cfg 32 (s.cfg.base + 0x004) = .reg .status := accessPlace_base s.cfg 0x004 rfl
  have hmoves : s.hostMoves (.write 32 (s.cfg.base + 0x004) v) :=
    hm.imp_right fun hd => ⟨congrArg Place.neverStalls hplace, hd⟩
  rw [step_of_hostMoves hp hmoves]
  simp only [State.hostStep, hplace]
  rfl

/-- Settles O13: the write acknowledges, and with DONE = 0 and ERROR = 0 there is nothing to acknowledge. -/
theorem statusWriteClearsDoneAndError : Obligations.StatusWriteClearsDoneAndError := by
  intro s v rest hp hm
  refine ⟨_, step_writeStatus hp hm, rfl, rfl, fun _ hdone herr => ?_⟩
  change s.status.acknowledge v = s.status
  simp only [Status.acknowledge, hdone, herr, ite_self]
  rw [← hdone, ← herr]

/-! ## How long an error stays (R232) -/

/-- While ERROR = 1 a host write of a place ends the error only by acknowledging it: a command is dropped (R91). -/
theorem writePlace_error_kept {s : State} {c : ErrorCode} (herr : s.status.error = some c) {p : Place} {v : Word}
    (hp : p = .reg .status → v.getLsbD 2 = false) : (s.writePlace p v).status.error = some c := by
  cases p with
  | reg name =>
    cases name with
    | cmd =>
      change (s.issue v).status.error = some c
      rw [State.issue_dropped herr, herr]
    | status =>
      change (s.status.acknowledge v).error = some c
      rw [Status.acknowledge_error, hp rfl, if_neg Bool.false_ne_true, herr]
    | ie | n | r | p | mult | diff | tblidx | k => exact herr
  | window name t => exact (congrArg Status.error (s.writeWindow_status name t v)).trans herr
  | reserved | unmapped => exact herr

/-- An event of the host ends an error only by `rst` or by a write of 1 to bit 2 of STATUS. -/
theorem hostStep_error_kept {s : State} {c : ErrorCode} (herr : s.status.error = some c) {e : HostEvent}
    (rest : List HostEvent) (hreset : e ≠ .reset)
    (hack : ∀ v, e = .write 32 (s.cfg.base + 0x004) v → v.getLsbD 2 = false) :
    (s.hostStep e rest).status.error = some c := by
  cases e with
  | read width addr => exact herr
  | poll => exact herr
  | reset => exact absurd rfl hreset
  | write width addr data =>
    refine writePlace_error_kept (s := s.take rest) herr fun hp => ?_
    obtain ⟨rfl, rfl⟩ := access_of_accessPlace_reg hp
    exact hack data rfl

/-- Settles O53: under the invariant no command is in flight while ERROR = 1, so only the host can end the error. -/
theorem errorIsStickyUntilAcknowledged : Obligations.ErrorIsStickyUntilAcknowledged := by
  intro s t c h herr ht hne
  have hidle : s.status.busy ≠ true := fun hb => by simp [h.busy_clean hb] at herr
  rcases step_eq s with ⟨hturn, -⟩ | ⟨e, rest, hp, -, hstep⟩ | ⟨-, -, -, hstep⟩
  · exact absurd ((turn_sequencer_iff s).mp hturn).1 hidle
  · obtain rfl := Host.Outcome.next.inj (ht.symm.trans hstep)
    refine ⟨rest, ?_⟩
    by_contra hno
    push Not at hno
    obtain ⟨hreset, hack⟩ := hno
    refine hne (hostStep_error_kept herr rest (fun he => hreset (he ▸ hp)) fun v he => ?_)
    exact Bool.eq_false_iff.mpr fun hbit => hack v hbit (he ▸ hp)
  · obtain rfl := Host.Outcome.next.inj (ht.symm.trans hstep)
    exact absurd herr hne

end Sys2Proof.Machine
end

section
/-! PROOFS. What one access of the host does while BUSY = 0: registers (R25 to R36), windows (R37 to R42) and reserved
offsets (R36). -/

namespace Sys2Proof.Machine

open Sys2Proof

/-! ## Registers -/

theorem regOffset_aligned (name : RegName) : name.offset % 4 = 0 := by cases name <;> rfl

/-- A host read of a register answers its word and changes nothing. -/
theorem step_readReg {s : State} (name : RegName) {rest : List HostEvent} (hb : s.status.busy = false)
    (hp : s.pending = .read 32 (s.cfg.base + name.offset) :: rest) :
    step s = .next { s with pending := rest, responses := .value (s.regWord name) :: s.responses } := by
  rw [step_read hb hp, accessPlace_base _ _ (regOffset_aligned name), place_reg]
  rfl

/-- A host write of a register other than CMD and STATUS leaves STATUS alone. -/
theorem State.writeReg_status (s : State) {name : RegName} (hcmd : name ≠ .cmd) (hst : name ≠ .status) (v : Word) :
    (s.writeReg name v).status = s.status := by
  cases name with
  | cmd => exact absurd rfl hcmd
  | status => exact absurd rfl hst
  | ie | n | r | p | mult | diff | tblidx | k => rfl

/-- A host write of a register other than CMD is the write and nothing else. -/
theorem step_writeReg {s : State} {name : RegName} {v : Word} {rest : List HostEvent} (hb : s.status.busy = false)
    (hcmd : name ≠ .cmd) (hp : s.pending = .write 32 (s.cfg.base + name.offset) v :: rest) :
    step s = .next { s.writeReg name v with pending := rest, responses := .done :: s.responses } := by
  rw [step_write hb (regOffset_aligned name) hp, place_reg]
  cases name with
  | cmd => exact absurd rfl hcmd
  | status | ie | n | r | p | mult | diff | tblidx | k => rfl

/-- A host write of a register other than CMD and STATUS and the read after it, on an idle block. -/
theorem run_writeReg_readReg {s : State} {name : RegName} {v : Word} {rest : List HostEvent} (hb : s.status.busy = false)
    (hcmd : name ≠ .cmd) (hst : name ≠ .status)
    (hp : s.pending = .write 32 (s.cfg.base + name.offset) v :: .read 32 (s.cfg.base + name.offset) :: rest) :
    Host.Core.run Sys2Proof.core 2 s = .next { s.writeReg name v with
      pending := rest, responses := .value ((s.writeReg name v).regWord name) :: .done :: s.responses } := by
  have hidle : (s.writeReg name v).status.busy = false := by rw [s.writeReg_status hcmd hst, hb]
  have hread := step_readReg (rest := rest) (s := { s.writeReg name v with
    pending := .read 32 (s.cfg.base + name.offset) :: rest, responses := .done :: s.responses }) name hidle
    (by rw [State.writeReg_cfg])
  rw [run_succ (step_writeReg hb hcmd hp), run_succ hread]
  rfl

/-- Bit 0 of a word as the read of IE returns it. -/
theorem setWidth_ofBool_getLsbD_zero (v : Word) :
    BitVec.setWidth 32 (BitVec.ofBool (v.getLsbD 0)) = BitVec.ofNat 32 (v.toNat % 2) := by
  rcases Nat.mod_two_eq_zero_or_one v.toNat with h | h <;> simp [BitVec.getLsbD, h]

/-- Settles O19: each register by `run_writeReg_readReg`. -/
theorem writtenRegistersReadBack : Obligations.WrittenRegistersReadBack := by
  intro s off v rest hb hp
  refine ⟨?_, ?_, ?_, ?_, ?_⟩ <;> rintro rfl
  · exact run_writeReg_readReg (name := .n) hb nofun nofun hp
  · exact run_writeReg_readReg (name := .r) hb nofun nofun hp
  · exact run_writeReg_readReg (name := .p) hb nofun nofun hp
  · exact run_writeReg_readReg (name := .diff) hb nofun nofun hp
  · rw [← setWidth_ofBool_getLsbD_zero]
    exact run_writeReg_readReg (name := .ie) hb nofun nofun hp

/-- Settles O59: `step_readReg` at each register's offset. -/
theorem registerReadsReturnTheRegisters : Obligations.RegisterReadsReturnTheRegisters := by
  rintro s off rest answer hb hp rfl
  refine ⟨?_, ?_, ?_, ?_, ?_, ?_, ?_, ?_, ?_, ?_⟩ <;> rintro rfl
  · exact step_readReg .cmd hb hp
  · exact step_readReg .status hb hp
  · rw [step_readReg .ie hb hp, State.regWord]
    cases s.ieEn <;> rfl
  · exact step_readReg .n hb hp
  · exact step_readReg .r hb hp
  · exact step_readReg .p hb hp
  · exact step_readReg .mult hb hp
  · exact step_readReg .diff hb hp
  · exact step_readReg .tblidx hb hp
  · rw [step_readReg .k hb hp, State.regWord, BitVec.ofNat_toNat]

/-! ## Writes that are ignored (R36, R40) -/

/-- The places where a host write is ignored (R36, R40). -/
def Place.IgnoresWrites (p : Place) : Prop := (∀ (s : State) (v : Word), s.writePlace p v = s) ∧ writeAnswer p = .done

theorem ignoresWrites_place (c : Config) {off : Nat} (h4 : off % 4 = 0)
    (h : off = 0x018 ∨ off = 0x020 ∨ (0x024 ≤ off ∧ off < 0x040) ∨ (0x120 ≤ off ∧ off < 0x1000)) :
    (place c off).IgnoresWrites := by
  have reserved : Place.reserved.IgnoresWrites := ⟨fun _ _ => rfl, rfl⟩
  rcases h with rfl | rfl | ⟨hlo, hhi⟩ | ⟨hlo, hhi⟩
  · exact ⟨fun _ _ => rfl, rfl⟩
  · exact ⟨fun _ _ => rfl, rfl⟩
  · by_cases hk : off < 0x028
    · obtain rfl : off = 0x024 := by omega
      exact ⟨fun _ _ => rfl, rfl⟩
    · exact place_reserved c off (.inl ⟨by omega, hhi⟩) ▸ reserved
  · obtain ⟨t, rfl⟩ := Nat.exists_eq_add_of_le hlo
    by_cases hmask : t < 0x020
    · exact place_mask c t hmask ▸ ⟨fun _ _ => rfl, rfl⟩
    by_cases hout : t < 0x040
    · obtain ⟨u, rfl⟩ := Nat.exists_eq_add_of_le (Nat.le_of_not_lt hmask)
      rw [← Nat.add_assoc]
      exact place_out c u (by omega) ▸ ⟨fun _ _ => rfl, rfl⟩
    · exact place_reserved c _ (.inr ⟨by omega, hhi⟩) ▸ reserved

/-- Settles O20: the places of the write clause ignore it, and the reserved ones read 0. -/
theorem readOnlyAndReservedIgnoreWrites : Obligations.ReadOnlyAndReservedIgnoreWrites := by
  intro s off v rest hb h4
  refine ⟨fun h hp => ?_, fun h hp => ?_⟩
  · obtain ⟨hsame, hanswer⟩ := ignoresWrites_place s.cfg h4 h
    rw [step_write hb h4 hp, hsame, hanswer]
    rfl
  · rw [step_read hb hp, accessPlace_base _ _ h4, place_reserved _ _ h]
    rfl

/-! ## Writes of a window word (R41, R42, R61) -/

theorem step_writeWindow {s : State} {off t : Nat} {name : WindowName} {v : Word} {rest : List HostEvent}
    (hb : s.status.busy = false) (hp : s.pending = .write 32 (s.cfg.base + off) v :: rest) (h4 : off % 4 = 0)
    (hplace : place s.cfg off = .window name t) :
    step s = .next ((State.writeWindow { s with pending := rest } name t v).respond .done) := by
  rw [step_write hb h4 hp, hplace]
  rfl

theorem getElem_putWindowWord {n : Nat} (b : Vector Byte n) (t : Nat) (v : Word) (i : Fin n) :
    (putWindowWord b t v)[i] = if t ≤ i.val ∧ i.val < t + 4 then v.extractLsb' (8 * (i.val - t)) 8 else b[i] := by
  simp [putWindowWord, wordByte]

/-- Settles O21: the four windows differ only in where they stand on the map. -/
theorem smallWindowWriteReplacesFourBytes : Obligations.SmallWindowWriteReplacesFourBytes := by
  intro s off q v rest hb hp
  refine ⟨?_, ?_, ?_, ?_⟩ <;> rintro rfl hq
  · exact ⟨_, step_writeWindow hb hp (by omega) (place_hdr _ _ (by omega)), by simp only [State.writeWindow, State.respond],
      getElem_putWindowWord _ _ _⟩
  · exact ⟨_, step_writeWindow hb hp (by omega) (place_s _ _ (by omega)), by simp only [State.writeWindow, State.respond],
      getElem_putWindowWord _ _ _⟩
  · exact ⟨_, step_writeWindow hb hp (by omega) (place_h _ _ (by omega)), by simp only [State.writeWindow, State.respond],
      getElem_putWindowWord _ _ _⟩
  · exact ⟨_, step_writeWindow hb hp (by omega) (place_s2 _ _ (by omega)), by simp only [State.writeWindow, State.respond],
      getElem_putWindowWord _ _ _⟩

theorem getD_le32enc (w : Word) {i : Nat} (hi : i < 4) : (le32enc w).getD i 0 = w.extractLsb' (8 * i) 8 := by
  rw [List.getD_eq_getElem?_getD, getElem?_le32enc w hi]
  rfl

/-- Settles O22: the write is a store of the word's four bytes (`State.bufByte_storeBuf`). -/
theorem bufWriteReplacesFourBytes : Obligations.BufWriteReplacesFourBytes := by
  intro s q v rest hb hq hp
  refine ⟨_, step_writeWindow hb hp (by omega) (place_buf _ _ hq), rfl, fun a => ?_⟩
  refine (State.bufByte_storeBuf s (4 * q) (le32enc v) a).trans ?_
  rw [length_le32enc]
  split
  next ha => exact getD_le32enc v (by omega)
  next => rfl

/-! ## Reads of a window word (R42, R61) -/

theorem le32dec_take_four (b : List Byte) : le32dec (b.take 4) = le32dec b := by
  rw [le32dec, le32dec, List.take_take, Nat.min_self]

/-- The word of BUF at byte `t` decodes the four bytes there. -/
theorem windowWord_buf (s : State) {t : Nat} (ht : t + 4 ≤ 128 * s.cfg.rMax) :
    s.windowWord .buf t = le32dec ((((List.range (128 * s.cfg.rMax)).map s.bufByte).drop t).take 4) := by
  refine congrArg le32dec ((Memory.load_eq _ _ _ _).trans (List.ext_getElem ?_ fun i hi hi' => ?_))
  · simp; omega
  · simp [State.bufByte]

theorem step_readWindow {s : State} {off t : Nat} {name : WindowName} {rest : List HostEvent}
    (hb : s.status.busy = false) (hp : s.pending = .read 32 (s.cfg.base + off) :: rest) (h4 : off % 4 = 0)
    (hplace : place s.cfg off = .window name t) :
    step s = .next { s with pending := rest, responses := .value (s.windowWord name t) :: s.responses } := by
  rw [step_read hb hp, accessPlace_base _ _ h4, hplace]
  rfl

/-- Settles O23: the six small windows hold their bytes as a vector, BUF byte by byte. -/
theorem windowReadReturnsFourBytes : Obligations.WindowReadReturnsFourBytes := by
  rintro s off q rest answer hb hp rfl
  simp only [le32dec_take_four]
  refine ⟨?_, ?_, ?_, ?_, ?_, ?_, ?_⟩ <;> rintro rfl hq
  · exact step_readWindow hb hp (by omega) (place_hdr _ _ (by omega))
  · exact step_readWindow hb hp (by omega) (place_s _ _ (by omega))
  · exact step_readWindow hb hp (by omega) (place_h _ _ (by omega))
  · exact step_readWindow hb hp (by omega) (place_s2 _ _ (by omega))
  · exact step_readWindow hb hp (by omega) (place_mask _ _ (by omega))
  · exact step_readWindow hb hp (by omega) (place_out _ _ (by omega))
  · rw [step_readWindow hb hp (by omega) (place_buf _ _ hq), windowWord_buf s (by omega), le32dec_take_four]

end Sys2Proof.Machine
end

section
/-! PROOFS. The stall rule while BUSY = 1 (R71), and that a read of the host changes nothing (R66). -/

namespace Sys2Proof.Machine

open Sys2Proof

/-! ## Stalled accesses (R71) -/

theorem place_ne_unmapped (c : Config) {off : Nat} (h : off < 0x1000 + 128 * c.rMax) : place c off ≠ .unmapped := by
  unfold place
  split_ifs
  all_goals nofun

/-- Below the end of the map everything stalls but STATUS and IE. -/
theorem stalls_place (c : Config) {off : Nat} (h4 : off % 4 = 0) (hend : off < 0x1000 + 128 * c.rMax)
    (hstatus : off ≠ 0x004) (hie : off ≠ 0x008) : (place c off).neverStalls = false := by
  rcases place_cases c h4 with ⟨name, hoff, hp⟩ | ⟨name, t, -, -, hp⟩ | hp | hp
  · rw [hp]
    cases name with
    | status => exact absurd hoff hstatus
    | ie => exact absurd hoff hie
    | cmd | n | r | p | mult | diff | tblidx | k => rfl
  · rw [hp]; rfl
  · rw [hp]; rfl
  · exact absurd hp (place_ne_unmapped c hend)

theorem step_of_sequencerMoves {s : State} (h : s.sequencerMoves) : step s = completion s := by
  rw [step, (turn_sequencer_iff s).mpr h]

/-- A completion step takes nothing from the host and ends the command (R92). -/
theorem completion_pending_busy {s t : State} (h : completion s = .next t) :
    t.pending = s.pending ∧ t.status.busy = false := by
  unfold completion at h
  split at h
  next i _ =>
    rcases exec_next h with ⟨_, -, rfl⟩ | ⟨u, rfl, -, hside⟩
    · exact ⟨rfl, rfl⟩
    · exact ⟨hside.pending, rfl⟩
  next =>
    obtain rfl := Host.Outcome.next.inj h
    exact ⟨rfl, rfl⟩

/-- Settles O9: the event is not at once, so the sequencer moves. -/
theorem stalledAccessWaitsForCompletion : Obligations.StalledAccessWaitsForCompletion := by
  intro s off e rest hb hp he h4 hend hstatus hie
  have stalled : atOnce s.cfg e = false := by
    have hplace := stalls_place s.cfg h4 hend hstatus hie
    rw [← accessPlace_base s.cfg off h4] at hplace
    rcases he with rfl | ⟨v, rfl⟩ <;> exact hplace
  have hstep : step s = completion s := step_of_sequencerMoves ⟨hb, .inr (.inr ⟨e, rest, hp, stalled⟩)⟩
  obtain ⟨t, ht⟩ := completion_is_next s
  obtain ⟨hpend, hbusy⟩ := completion_pending_busy ht
  exact ⟨hstep, t, hstep.trans ht, hpend.trans hp, hbusy⟩

/-! ## Accesses that complete at once (R71) -/

theorem State.take_inFlight {s : State} (hb : s.status.busy = true) (rest : List HostEvent) :
    s.take rest = { s with pending := rest, delay := s.delay - 1 } := by
  rw [State.take, if_pos hb]

/-- A read of STATUS or IE before the completion step answers the register and lets the command run on. -/
theorem step_readReg_inFlight {s : State} {name : RegName} {rest : List HostEvent} (hb : s.status.busy = true)
    (hd : 0 < s.delay) (hname : name = .status ∨ name = .ie)
    (hp : s.pending = .read 32 (s.cfg.base + name.offset) :: rest) :
    step s = .next { s with
      pending := rest, delay := s.delay - 1, responses := .value (s.regWord name) :: s.responses } := by
  have hplace : accessPlace s.cfg 32 (s.cfg.base + name.offset) = .reg name :=
    (accessPlace_base _ _ (regOffset_aligned name)).trans (place_reg _ name)
  have atonce : atOnce s.cfg (.read 32 (s.cfg.base + name.offset)) = true := by
    refine (congrArg Place.neverStalls hplace).trans ?_
    rcases hname with rfl | rfl <;> rfl
  rw [step_of_hostMoves hp (.inr ⟨atonce, hd⟩), State.hostStep, hplace, State.take_inFlight hb]
  rfl

/-- A write of IE before the completion step sets EN and lets the command run on. -/
theorem step_writeIe_inFlight {s : State} {v : Word} {rest : List HostEvent} (hb : s.status.busy = true)
    (hd : 0 < s.delay) (hp : s.pending = .write 32 (s.cfg.base + 0x008) v :: rest) :
    step s = .next { s with
      ieEn := v.getLsbD 0, pending := rest, delay := s.delay - 1, responses := .done :: s.responses } := by
  have hplace : accessPlace s.cfg 32 (s.cfg.base + 0x008) = .reg .ie := accessPlace_base s.cfg 0x008 rfl
  have atonce : atOnce s.cfg (.write 32 (s.cfg.base + 0x008) v) = true := congrArg Place.neverStalls hplace
  rw [step_of_hostMoves hp (.inr ⟨atonce, hd⟩), State.hostStep, hplace, State.take_inFlight hb]
  rfl

/-- Settles O10: STATUS and IE never stall, and the delay lets the host move first; the STATUS write is
`step_writeStatus`. -/
theorem statusAndIeAccessesDoNotStall : Obligations.StatusAndIeAccessesDoNotStall := by
  intro s off v rest hb hd hoff
  refine ⟨fun hp => ?_, fun hp => ⟨?_, ?_⟩⟩
  · rcases hoff with rfl | rfl
    · exact step_readReg_inFlight (name := .status) hb hd (.inl rfl) hp
    · exact step_readReg_inFlight (name := .ie) hb hd (.inr rfl) hp
  · rintro rfl
    exact step_writeIe_inFlight hb hd hp
  · rintro rfl
    refine ⟨_, step_writeStatus hp (.inr hd), hb, rfl, ?_⟩
    rw [State.take_inFlight hb]
    rfl

/-! ## Reads change nothing (R66) -/

/-- What a read answers does not depend on what the host still has to do or was told. -/
theorem State.readPlace_hostLists (s : State) (p : Place) (rest : List HostEvent) (answers : List BusResponse) :
    State.readPlace { s with pending := rest, responses := answers } p = s.readPlace p := by
  cases p with
  | reg name => cases name <;> rfl
  | window name t => cases name <;> rfl
  | reserved | unmapped => rfl

/-- Settles O18: the first read changes only the host's lists, and the second answers what it answered. -/
theorem hostReadsAreIdempotent : Obligations.HostReadsAreIdempotent := by
  intro s width addr rest hb hp
  have again := step_read (s := { s with
    pending := .read width addr :: rest, responses := s.readPlace (accessPlace s.cfg width addr) :: s.responses }) hb rfl
  rw [State.readPlace_hostLists] at again
  exact ⟨_, (run_succ (step_read hb hp) 1).trans (run_succ again 0)⟩

end Sys2Proof.Machine
end

section
/-! PROOFS. The number a hash value stands for (R62, R186), the leading-zero count, and the decided mask (R187). -/

namespace Sys2Proof.Machine

open Sys2Proof

/-! ## Val (R62) -/

theorem leNat_ofFn {n : Nat} (f : Fin n → Byte) : leNat (List.ofFn f) = ∑ i, (f i).toNat * 2 ^ (8 * i.val) := by
  induction n with
  | zero => rfl
  | succ n ih =>
    have shift (i : Fin n) :
        (f i.succ).toNat * 2 ^ (8 * i.succ.val) = 256 * ((f i.succ).toNat * 2 ^ (8 * i.val)) := by
      rw [Fin.val_succ]
      ring
    rw [List.ofFn_succ, leNat, ih, Fin.sum_univ_succ, Finset.mul_sum, Finset.sum_congr rfl fun i _ => shift i]
    simp

theorem toList_eq_ofFn {n : Nat} (x : Vector Byte n) : x.toList = List.ofFn fun i : Fin n => x[i] :=
  List.ext_getElem (by simp) (by simp)

theorem reverse_toList_eq_ofFn {n : Nat} (x : Vector Byte n) :
    x.toList.reverse = List.ofFn fun i : Fin n => x[i.rev] :=
  List.ext_getElem (by simp) fun i hi hi' => by
    simp [Fin.val_rev, Nat.sub_sub, Nat.add_comm]

theorem hashVal_littleEndian (x : Vector Byte 32) : hashVal .le x = ∑ i : Fin 32, x[i].toNat * 2 ^ (8 * i.val) :=
  (congrArg leNat (toList_eq_ofFn x)).trans (leNat_ofFn _)

/-- The big-endian sum runs over the same bytes from the other end. -/
theorem hashVal_bigEndian (x : Vector Byte 32) : hashVal .be x = ∑ i : Fin 32, x[i].toNat * 2 ^ (8 * (31 - i.val)) := by
  refine ((congrArg leNat (reverse_toList_eq_ofFn x)).trans (leNat_ofFn _)).trans ?_
  rw [← Equiv.sum_comp Fin.revPerm]
  refine Finset.sum_congr rfl fun i _ => ?_
  simp [Fin.val_rev]

theorem hashVal_lt_two_pow (o : HashOrder) (x : Vector Byte 32) : hashVal o x < 2 ^ 256 := by
  have hlen : (orderedBytes o x).length = 32 := by cases o <;> simp [orderedBytes]
  have hlt := leNat_lt_pow_length (orderedBytes o x)
  rw [hlen] at hlt
  exact hlt

/-! ## The number back as a hash value (R62) -/

/-- The `n` low bytes of a number, least significant first, stand for it modulo 256^n. -/
theorem leNat_ofFn_bytes (n v : Nat) :
    leNat (List.ofFn fun i : Fin n => BitVec.ofNat 8 (v / 2 ^ (8 * i.val))) = v % 2 ^ (8 * n) := by
  induction n generalizing v with
  | zero => simp [leNat, Nat.mod_one]
  | succ n ih =>
    have shift (i : Fin n) : v / 2 ^ (8 * i.succ.val) = v / 2 ^ 8 / 2 ^ (8 * i.val) := by
      rw [Nat.div_div_eq_div_mul, ← Nat.pow_add, Fin.val_succ, Nat.mul_succ, Nat.add_comm]
    rw [List.ofFn_succ, leNat]
    simp only [shift]
    rw [ih, Nat.mul_succ, Nat.add_comm (8 * n) 8, Nat.pow_add, Nat.mod_mul]
    simp

theorem orderedBytes_hashOfNat (o : HashOrder) (v : Nat) :
    orderedBytes o (hashOfNat o v) = List.ofFn fun i : Fin 32 => BitVec.ofNat 8 (v / 2 ^ (8 * i.val)) := by
  cases o with
  | le => exact Vector.toList_ofFn
  | be =>
    refine (reverse_toList_eq_ofFn _).trans (congrArg List.ofFn (funext fun i => ?_))
    have hi : 31 - (31 - i.val) = i.val := by omega
    simp [hashOfNat, Fin.val_rev, hi]

theorem hashVal_hashOfNat (o : HashOrder) {v : Nat} (h : v < 2 ^ 256) : hashVal o (hashOfNat o v) = v := by
  rw [hashVal, orderedBytes_hashOfNat, leNat_ofFn_bytes]
  exact Nat.mod_eq_of_lt h

/-! ## The leading-zero count (R186) -/

theorem clz256_of_zero {o : HashOrder} {x : Vector Byte 32} (h : hashVal o x = 0) : clz256 o x = 256 := if_pos h

/-- The highest one of a non-zero value is bit 255 − Clz256. -/
theorem clz256_bounds {o : HashOrder} {x : Vector Byte 32} (h : hashVal o x ≠ 0) :
    clz256 o x < 256 ∧ 2 ^ (255 - clz256 o x) ≤ hashVal o x ∧ hashVal o x < 2 ^ (256 - clz256 o x) := by
  have hlog : Nat.log2 (hashVal o x) < 256 := (Nat.log2_lt h).mpr (hashVal_lt_two_pow o x)
  have hclz : clz256 o x = 255 - Nat.log2 (hashVal o x) := if_neg h
  have hlo : 255 - clz256 o x = Nat.log2 (hashVal o x) := by omega
  have hhi : 256 - clz256 o x = Nat.log2 (hashVal o x) + 1 := by omega
  rw [hlo, hhi]
  exact ⟨by omega, Nat.log2_self_le h, Nat.lt_log2_self⟩

/-! ## MaskOf (R187) -/

theorem maskOf_exception {c : Config} {x m : Vector Byte 32} {k : Fin 257} (h : c.maskExceptions.lookup x = some (k, m)) :
    maskOf c x = (BitVec.ofNat 9 k.val, m) := by
  simp only [maskOf, h]

theorem maskOf_default {c : Config} {x : Vector Byte 32} (h : c.maskExceptions.lookup x = none) :
    maskOf c x = (BitVec.ofNat 9 (clz256 c.hashOrder x),
      hashOfNat c.hashOrder (2 ^ (256 - clz256 c.hashOrder x) - 1)) := by
  simp only [maskOf, h]

/-- A count of at most 256 fits the nine bits of K (R35). -/
theorem toNat_ofNat_count {k : Nat} (h : k ≤ 256) : (BitVec.ofNat 9 k).toNat = k :=
  (BitVec.toNat_ofNat ..).trans (Nat.mod_eq_of_lt (by omega))

theorem hashVal_maskOf_default {c : Config} {x : Vector Byte 32} (h : c.maskExceptions.lookup x = none) :
    hashVal c.hashOrder (maskOf c x).2 = 2 ^ (256 - clz256 c.hashOrder x) - 1 := by
  have fits : 2 ^ (256 - clz256 c.hashOrder x) ≤ 2 ^ 256 := Nat.pow_le_pow_right (by decide) (Nat.sub_le ..)
  rw [maskOf_default h]
  exact hashVal_hashOfNat _ (by have := Nat.two_pow_pos (256 - clz256 c.hashOrder x); omega)

/-- Settles O45: the byte sums, the equations of `maskOf`, and the bounds of the count. -/
theorem defaultMaskHasLowOnes : Obligations.DefaultMaskHasLowOnes := by
  refine ⟨fun x => ⟨hashVal_littleEndian x, hashVal_bigEndian x⟩, fun c x m k h => ?_, fun c x k h hk => ?_⟩
  · rw [maskOf_exception h]
    exact ⟨toNat_ofNat_count (Nat.le_of_lt_succ k.isLt), rfl⟩
  · have hclz : k = clz256 c.hashOrder x := by rw [hk, maskOf_default h, toNat_ofNat_count (clz256_le _ _)]
    subst hclz
    exact ⟨rfl, clz256_le _ _, clz256_of_zero, clz256_bounds, hashVal_maskOf_default h⟩

end Sys2Proof.Machine
end

section
/-! PROOFS. The command decoder and encoder (R93 to R95), and the completion step of the latched word (R92, R224). -/

namespace Sys2Proof.Machine

open Sys2Proof

/-! ## Decode and encode (R93 to R95) -/

theorem decode_encode (i : Instr) : decode (encode i) = .ok i := by cases i <;> rfl

theorem rsvField_encode (i : Instr) : rsvField (encode i) = 0 := by cases i <;> rfl

/-- A listed opcode is the low byte of its command's match word. -/
theorem opField_encode_of_decodeOp {op : Byte} {i : Instr} (h : decodeOp op = .ok i) : opField (encode i) = op := by
  unfold decodeOp at h
  split_ifs at h with hop hop hop hop hop hop hop hop hop
  all_goals
    cases h
    exact hop.symm

/-- A command word is its reserved bits above its opcode (R90). -/
theorem rsvField_append_opField (w : Word) : rsvField w ++ opField w = w :=
  (BitVec.extractLsb'_append_extractLsb'_eq_extractLsb' rfl).trans BitVec.extractLsb'_eq_self

/-- Only the match word of a command decodes to it: the reserved bits and the opcode are those of the match word. -/
theorem eq_encode_of_decode {w : Word} {i : Instr} (h : decode w = .ok i) : w = encode i := by
  unfold decode at h
  split_ifs at h with hrsv
  calc
    w = rsvField w ++ opField w := (rsvField_append_opField w).symm
    _ = rsvField (encode i) ++ opField (encode i) := by
      rw [not_not.mp hrsv, rsvField_encode, opField_encode_of_decodeOp h]
    _ = encode i := rsvField_append_opField _

/-- Settles O2, by `eq_encode_of_decode` and `decode_encode`. -/
theorem wordDecodesExactlyWhenEncoded : Obligations.WordDecodesExactlyWhenEncoded :=
  fun _ i => ⟨eq_encode_of_decode, fun h => h ▸ decode_encode i⟩

/-- Settles O1: the nine words are the match words; the three neighbours are evaluated. -/
theorem tableWordsDecodeAsSpelled : Obligations.TableWordsDecodeAsSpelled :=
  ⟨decode_encode .salsa, decode_encode .bmix, decode_encode .romix, decode_encode .pchk, decode_encode .hsel,
    decode_encode .hxor, decode_encode .hmask, decode_encode .hcomb, decode_encode .wipe, by decide, by decide, by decide⟩

/-! ## The completion step of the latched word (R92, R94, R95) -/

theorem completion_of_decode_ok {s : State} {i : Instr} (h : decode s.curw = .ok i) : completion s = exec i s := by
  simp only [completion, h]

theorem completion_of_decode_error {s : State} {e : DecodeReject} (h : decode s.curw = .error e) :
    completion s = .next s.illegalCommand := by
  simp only [completion, h]

/-- Settles O6, by `step_of_sequencerMoves`. -/
theorem stepRunsTheLatchedCommand : Obligations.StepRunsTheLatchedCommand :=
  fun _ _ hmoves hdec => (step_of_sequencerMoves hmoves).trans (completion_of_decode_ok hdec)

/-- The nine opcodes of R93. -/
def listedOps : List Byte := [0x01, 0x02, 0x03, 0x04, 0x10, 0x11, 0x12, 0x13, 0x1F]

theorem opField_encode_mem_listedOps (i : Instr) : opField (encode i) ∈ listedOps := by cases i <;> decide

/-- A word that no match word equals is refused (R94, R95). -/
theorem exists_decode_error {w : Word} (h : rsvField w ≠ 0 ∨ opField w ∉ listedOps) : ∃ e, decode w = .error e := by
  cases hdec : decode w with
  | error e => exact ⟨e, rfl⟩
  | ok i =>
    obtain rfl := eq_encode_of_decode hdec
    rcases h with hrsv | hop
    · exact absurd (rsvField_encode i) hrsv
    · exact absurd (opField_encode_mem_listedOps i) hop

/-- Settles O3: such a word is refused, and its completion step is the error entry of R230; the unlisted opcodes are
counted. -/
theorem illegalWordsEndWithIllegalCommand : Obligations.IllegalWordsEndWithIllegalCommand := by
  refine ⟨fun s hmoves hillegal => ?_, by decide +kernel⟩
  obtain ⟨e, he⟩ := exists_decode_error hillegal
  exact (step_of_sequencerMoves hmoves).trans (completion_of_decode_error he)

end Sys2Proof.Machine
end

section
/-! PROOFS. One step of the machine: that it answers a next state (R92, R239), the issue of a command (R91), and the result
that a completion step leaves in STATUS (R26, R92). -/

namespace Sys2Proof.Machine

open Sys2Proof

/-- Settles O7: the completion step is total, and the events of the host and waiting are next states. -/
theorem everyStepAnswersNext : Obligations.EveryStepAnswersNext := by
  intro s
  rcases step_eq s with ⟨-, hstep⟩ | ⟨e, rest, -, -, hstep⟩ | ⟨-, -, -, hstep⟩
  · exact hstep ▸ completion_is_next s
  · exact ⟨_, hstep⟩
  · exact ⟨s, hstep⟩

/-! ## Issue (R91) -/

/-- A write to CMD while BUSY = 0 issues the word and is answered. -/
theorem step_writeCmd {s : State} {w : Word} {rest : List HostEvent} (hb : s.status.busy = false)
    (hp : s.pending = .write 32 (s.cfg.base + RegName.offset .cmd) w :: rest) :
    step s = .next ((State.issue { s with pending := rest } w).respond .done) := by
  rw [step_write hb (regOffset_aligned .cmd) hp, place_reg]
  rfl

/-- The word is accepted while ERROR = 0: what a write to CMD leaves then. -/
theorem step_writeCmd_accepted {s : State} {w : Word} {rest : List HostEvent} (hb : s.status.busy = false)
    (herr : s.status.error = none) (hp : s.pending = .write 32 (s.cfg.base + RegName.offset .cmd) w :: rest) :
    step s = .next { s with
      status := s.status.accepting w, curw := w, pending := rest, responses := .done :: s.responses,
      delay := Config.completionDelay s.accepted, accepted := s.accepted + 1 } := by
  rw [step_writeCmd hb hp, State.issue_accepted (s := { s with pending := rest }) herr]
  rfl

/-- Settles O8, by the two cases of the issue. -/
theorem commandWriteIsIssuedOrDropped : Obligations.CommandWriteIsIssuedOrDropped := by
  refine fun s w rest hb hp => ⟨fun herr => ?_, fun herr => ⟨_, step_writeCmd_accepted hb herr hp, rfl, rfl, rfl⟩⟩
  obtain ⟨c, hc⟩ := Option.ne_none_iff_exists'.mp herr
  rw [step_writeCmd hb hp, State.issue_dropped (s := { s with pending := rest }) hc]
  rfl

/-! ## The result of a completion step (R26, R92) -/

/-- Settles O51: a command ends in an error or in its completion (`exec_next`), and its own effect leaves STATUS alone. -/
theorem completionSetsExactlyOneResult : Obligations.CompletionSetsExactlyOneResult := by
  intro i s hdone herr
  obtain ⟨t, ht⟩ := exec_is_next i s
  refine ⟨t, ht, ?_⟩
  rcases exec_next ht with ⟨c, -, rfl⟩ | ⟨u, rfl, hstatus, -⟩
  · exact ⟨rfl, rfl, .inr ⟨hdone, c, rfl⟩⟩
  · simp [hstatus, herr]

/-- Whatever word is latched, its completion step keeps OP and leaves a result. -/
theorem completion_op_result {s t : State} (h : completion s = .next t) :
    t.status.op = s.status.op ∧ (t.status.done = true ∨ t.status.error ≠ none) := by
  cases hdec : decode s.curw with
  | ok i =>
    rw [completion_of_decode_ok hdec] at h
    rcases exec_next h with ⟨c, -, rfl⟩ | ⟨u, rfl, hstatus, -⟩
    · simp
    · simp [hstatus]
  | error e =>
    obtain rfl := Host.Outcome.next.inj ((completion_of_decode_error hdec).symm.trans h)
    simp

end Sys2Proof.Machine
end

section
/-! PROOFS. What each command may change (R97, R180). -/

namespace Sys2Proof.Machine

open Sys2Proof

/-- SALSA stores the 64 bytes of one output block (R127). -/
theorem execSalsa_frame {s t : State} (h : execSalsa s = .next t) :
    t = { s with buf := t.buf, dp := t.dp, status := t.status } ∧ ∀ a : Nat, 64 ≤ a → t.bufByte a = s.bufByte a := by
  obtain rfl := Host.Outcome.next.inj h
  refine ⟨rfl, fun a ha => ?_⟩
  refine (State.bufByte_storeBuf s 0 (salsaEval (s.loadBuf 64)).output a).trans (if_neg ?_)
  rw [length_output]
  omega

/-- BMIX stores two blocks of 128·r bytes (R147, R79). -/
theorem execBmix_frame {s t : State} (h : execBmix s = .next t) :
    t = { s with buf := t.buf, xy := t.xy, dp := t.dp, status := t.status } ∧
      (∀ a : Nat, 128 * s.r.toNat ≤ a → t.bufByte a = s.bufByte a) ∧
      (∀ a : Nat, 128 * s.r.toNat ≤ a → t.xyByte a = s.xyByte a) := by
  cases hchk : rCheck s.cfg s.r.toNat with
  | error c =>
    obtain rfl := Host.Outcome.next.inj ((execBmix_error hchk).symm.trans h)
    exact ⟨rfl, fun _ _ => rfl, fun _ _ => rfl⟩
  | ok =>
    obtain rfl := Host.Outcome.next.inj ((execBmix_ok hchk).symm.trans h)
    have hchain := length_blockMixChain (s.loadBuf (128 * s.r.toNat)) s.r.toNat
    refine ⟨rfl, fun a ha => ?_, fun a ha => ?_⟩
    · exact (State.bufByte_writeBlockMix s _ _ hchain a).trans (if_neg (by omega))
    · exact (State.xyByte_writeBlockMix s _ _ a).trans (if_neg (by omega))

/-- ROMIX stores X, the last scratch Y and N entries of V (R163, R79). -/
theorem execRomix_frame {s t : State} (h : execRomix s = .next t) :
    t = { s with buf := t.buf, xy := t.xy, v := t.v, dp := t.dp, status := t.status } ∧
      (∀ a : Nat, 128 * s.r.toNat ≤ a → t.bufByte a = s.bufByte a) ∧
      (∀ a : Nat, 256 * s.r.toNat ≤ a → t.xyByte a = s.xyByte a) ∧
      (∀ a : Nat, 128 * s.r.toNat * s.n.toNat ≤ a → t.vByte a = s.vByte a) := by
  cases hchk : paramCheck s.cfg s.n.toNat s.r.toNat 1 with
  | error c =>
    obtain rfl := Host.Outcome.next.inj ((execRomix_error hchk).symm.trans h)
    exact ⟨rfl, fun _ _ => rfl, fun _ _ => rfl, fun _ _ => rfl⟩
  | ok =>
    obtain rfl := Host.Outcome.next.inj ((execRomix_ok hchk).symm.trans h)
    obtain ⟨hn, -, -⟩ := bounds_of_paramCheck_ok hchk
    have hlen := s.length_loadBuf (128 * s.r.toNat)
    have hx := length_romix_x s.cfg (s.fresh .v) s.v _ _ _ hn hlen
    have hchain := length_romix_chain s.cfg (s.fresh .v) s.v (s.loadBuf (128 * s.r.toNat)) s.n.toNat s.r.toNat hn
    refine ⟨rfl, fun a ha => ?_, fun a ha => ?_, fun a ha => ?_⟩
    · exact (State.bufByte_writeRomix s _ a).trans (if_neg (by omega))
    · exact (State.xyByte_writeRomix s _ a).trans (if_neg (by omega))
    · refine (State.vByte_writeRomix s _ a).trans ?_
      rw [romix_v, Memory.byte, fill_lookup_above _ _ _ hlen a ha]
      rfl

theorem execPchk_frame {s t : State} (h : execPchk s = .next t) : t = { s with status := t.status } := by
  cases hchk : paramCheck s.cfg s.n.toNat s.r.toNat s.p.toNat with
  | error c =>
    obtain rfl := Host.Outcome.next.inj ((execPchk_error hchk).symm.trans h)
    rfl
  | ok =>
    obtain rfl := Host.Outcome.next.inj ((execPchk_ok hchk).symm.trans h)
    rfl

theorem execHsel_frame {s t : State} (h : execHsel s = .next t) :
    t = { s with n := t.n, r := t.r, p := t.p, mult := t.mult, tblidx := t.tblidx, status := t.status } := by
  cases hrow : tableRow s.cfg (tableIndex s.cfg s.diff) with
  | none =>
    obtain rfl := Host.Outcome.next.inj ((execHsel_out_of_range hrow).symm.trans h)
    rfl
  | some row =>
    by_cases hw : 1024 * row.multiplier.toNat ≥ 2 ^ 32
    · obtain rfl := Host.Outcome.next.inj ((execHsel_too_wide hrow hw).symm.trans h)
      rfl
    · obtain rfl := Host.Outcome.next.inj ((execHsel_ok hrow hw).symm.trans h)
      rfl

/-- A block of zeros leaves every byte above it. -/
theorem Memory.byte_store_zeros_above (fresh : Nat → Byte) (m : Memory) {n a : Nat} (h : n ≤ a) :
    Memory.byte fresh (Memory.store m 0 (List.replicate n 0)) a = Memory.byte fresh m a := by
  rw [Memory.byte_store, List.length_replicate, if_neg (by omega)]

/-- WIPE zeroes all of BUF, XY and V and no byte beyond them (R210). -/
theorem execWipe_frame {s t : State} (h : execWipe s = .next t) :
    t = { s with
        buf := t.buf, xy := t.xy, v := t.v, hdr := t.hdr, sbuf := t.sbuf, h := t.h, s2 := t.s2, mask := t.mask,
        out := t.out, k := t.k, dp := t.dp, status := t.status } ∧
      (∀ a : Nat, 128 * s.cfg.rMax ≤ a → t.bufByte a = s.bufByte a) ∧
      (∀ a : Nat, 256 * s.cfg.rMax ≤ a → t.xyByte a = s.xyByte a) ∧
      (∀ a : Nat, s.cfg.vBytes ≤ a → t.vByte a = s.vByte a) := by
  obtain rfl := Host.Outcome.next.inj h
  exact ⟨rfl, fun _ ha => Memory.byte_store_zeros_above _ _ ha, fun _ ha => Memory.byte_store_zeros_above _ _ ha,
    fun _ ha => Memory.byte_store_zeros_above _ _ ha⟩

/-- Settles O50, by one frame lemma per command. -/
theorem commandsTouchOnlyWhatR97Lists : Obligations.CommandsTouchOnlyWhatR97Lists := by
  intro i s t h
  cases i with
  | salsa => exact execSalsa_frame h
  | bmix => exact execBmix_frame h
  | romix => exact execRomix_frame h
  | pchk => exact execPchk_frame h
  | hsel => exact execHsel_frame h
  | hxor | hmask | hcomb =>
    obtain rfl := Host.Outcome.next.inj h
    rfl
  | wipe => exact execWipe_frame h

end Sys2Proof.Machine
end

section
/-! PROOFS. The host-script lines WRB on BUF and RUN (R99). -/

namespace Sys2Proof.Machine

open Sys2Proof

/-! ## WRB -/

/-- A store at `off` and one right above it: what an address holds is what it holds after one store of both. -/
theorem ite_getD_append (lower upper : List Byte) (off a : Nat) (old : Byte) :
    (if off + lower.length ≤ a ∧ a < off + lower.length + upper.length then upper.getD (a - (off + lower.length)) 0
      else if off ≤ a ∧ a < off + lower.length then lower.getD (a - off) 0 else old) =
    if off ≤ a ∧ a < off + (lower ++ upper).length then (lower ++ upper).getD (a - off) 0 else old := by
  rw [List.length_append]
  by_cases hupper : off + lower.length ≤ a
  · by_cases hend : a < off + lower.length + upper.length
    · rw [if_pos ⟨hupper, hend⟩, if_pos (by omega), List.getD_append_right _ _ _ _ (by omega), Nat.sub_sub]
    · rw [if_neg (by omega), if_neg (by omega), if_neg (by omega)]
  · rw [if_neg (by omega)]
    by_cases hlower : off ≤ a
    · rw [if_pos (by omega), if_pos (by omega), List.getD_append _ _ _ _ (by omega)]
    · rw [if_neg (by omega), if_neg (by omega)]

/-- The first word of a WRB line on BUF: its four bytes are stored, and what is left is a WRB line four bytes further up. -/
theorem step_wrb {s : State} {off : Nat} {b0 b1 b2 b3 : Byte} {bytes : List Byte} {rest : List HostEvent}
    (hb : s.status.busy = false) (h4 : off % 4 = 0) (hoff : off < 128 * s.cfg.rMax)
    (hp : s.pending = expandLine s.cfg.base (.wrb .buf off (b0 :: b1 :: b2 :: b3 :: bytes)) ++ rest) :
    step s = .next ((State.storeBuf { s with pending := expandLine s.cfg.base (.wrb .buf (off + 4) bytes) ++ rest } off
      [b0, b1, b2, b3]).respond .done) := by
  have hword : s.pending = .write 32 (s.cfg.base + (0x1000 + off)) (le32dec [b0, b1, b2, b3]) ::
      (expandLine s.cfg.base (.wrb .buf (off + 4) bytes) ++ rest) := hp
  rw [step_writeWindow hb hword (by omega) (place_buf s.cfg off hoff), State.writeWindow_buf_eq, le32enc_le32dec rfl]

/-- Settles O57, by recursion over the words of the line. -/
theorem wrbLineStoresItsBytes : Obligations.WrbLineStoresItsBytes
  | s, off, [], rest, _, _, _, _, hp => by
    have hrest : s.pending = rest := hp
    exact ⟨s, rfl, fun a => by rw [List.length_nil, if_neg (by omega)], by rw [← hrest]⟩
  | s, off, b0 :: b1 :: b2 :: b3 :: bytes, rest, hb, h4, hlen, hend, hp => by
    simp only [List.length_cons] at hlen hend
    obtain ⟨t, hrun, hbytes, hframe⟩ := wrbLineStoresItsBytes
      ((State.storeBuf { s with pending := expandLine s.cfg.base (.wrb .buf (off + 4) bytes) ++ rest } off
        [b0, b1, b2, b3]).respond .done) (off + 4) bytes rest hb (by omega) (by omega)
      (show off + 4 + bytes.length ≤ 128 * s.cfg.rMax by omega) rfl
    refine ⟨t, ?_, fun a => ?_, hframe⟩
    · have hwords : (b0 :: b1 :: b2 :: b3 :: bytes).length / 4 = bytes.length / 4 + 1 := by
        simp only [List.length_cons]; omega
      rw [hwords, run_succ (step_wrb hb h4 (by omega) hp), hrun]
    · calc
        t.bufByte a = if off + 4 ≤ a ∧ a < off + 4 + bytes.length then bytes.getD (a - (off + 4)) 0
            else (s.storeBuf off [b0, b1, b2, b3]).bufByte a := hbytes a
        _ = _ := by rw [State.bufByte_storeBuf]; exact ite_getD_append [b0, b1, b2, b3] bytes off a _
  | _, _, [_], _, _, _, hlen, _, _ => absurd hlen (by simp)
  | _, _, [_, _], _, _, _, hlen, _, _ => absurd hlen (by simp)
  | _, _, [_, _, _], _, _, _, hlen, _, _ => absurd hlen (by simp)

/-! ## RUN -/

/-- A POLL while BUSY = 0 reads STATUS once and is done. -/
theorem step_poll_idle {s : State} {rest : List HostEvent} (hb : s.status.busy = false) (hp : s.pending = .poll :: rest) :
    step s = .next { s with pending := rest, responses := .value s.status.word :: s.responses } := by
  rw [step_of_hostMoves hp (.inl hb)]
  simp only [State.hostStep, State.take, hb, State.respond]
  rfl

/-- A POLL before the completion step reads STATUS and stays. -/
theorem step_poll_inFlight {s : State} {rest : List HostEvent} (hb : s.status.busy = true) (hd : 0 < s.delay)
    (hp : s.pending = .poll :: rest) :
    step s = .next { s with delay := s.delay - 1, responses := .value s.status.word :: s.responses } := by
  rw [step_of_hostMoves hp (.inr ⟨rfl, hd⟩), State.hostStep, if_pos hb, State.take_inFlight hb, ← hp]
  rfl

/-- A POLL on a command in flight ends after its completion step, by induction on the reads of STATUS that come before it. -/
theorem run_poll_inFlight {d : Nat} {s : State} {rest : List HostEvent} (hb : s.status.busy = true) (hd : s.delay = d)
    (hp : s.pending = .poll :: rest) :
    ∃ t : State, Host.Core.run Sys2Proof.core (d + 2) s = .next t ∧ t.pending = rest ∧ t.status.busy = false ∧
      t.status.op = s.status.op ∧ (t.status.done = true ∨ t.status.error ≠ none) ∧
      t.responses.head? = some (.value t.status.word) := by
  induction d generalizing s with
  | zero =>
    obtain ⟨u, hu⟩ := completion_is_next s
    obtain ⟨hpend, hidle⟩ := completion_pending_busy hu
    obtain ⟨hop, hresult⟩ := completion_op_result hu
    have hcomplete : step s = .next u := (step_of_sequencerMoves ⟨hb, .inr (.inl hd)⟩).trans hu
    exact ⟨_, (run_succ hcomplete 1).trans (run_succ (step_poll_idle hidle (hpend.trans hp)) 0), rfl, hidle, hop, hresult,
      rfl⟩
  | succ d ih =>
    rw [run_succ (step_poll_inFlight hb (by omega) hp)]
    exact ih hb (by simp [hd]) hp

/-- Settles O58: the write to CMD is accepted (`step_writeCmd_accepted`), and the POLL ends after the completion step. -/
theorem runLineEndsWithTheCommandCompleted : Obligations.RunLineEndsWithTheCommandCompleted := by
  intro s i rest hb herr hp
  have hissue := step_writeCmd_accepted (w := encode i) (rest := .poll :: rest) hb herr hp
  obtain ⟨t, hrun, hend⟩ := run_poll_inFlight (s := { s with
    status := s.status.accepting (encode i), curw := encode i, pending := .poll :: rest,
    responses := .done :: s.responses, delay := Config.completionDelay s.accepted, accepted := s.accepted + 1 }) rfl rfl rfl
  exact ⟨_, t, (run_succ hissue _).trans hrun, hend⟩

end Sys2Proof.Machine
end

section
/-! PROOFS. A block as sixteen words (R21, R125): what the output of an evaluation decodes to, and the top bit of a word in
its bytes. -/

namespace Sys2Proof.Machine

open Sys2Proof

/-! ## The output block -/

theorem le32dec_le32enc_append (w : Word) (rest : List Byte) : le32dec (le32enc w ++ rest) = w :=
  le32dec_le32enc w

theorem drop_flatMap_le32enc (ws : List Word) (i : Nat) :
    (ws.flatMap le32enc).drop (4 * i) = (ws.drop i).flatMap le32enc := by
  induction i generalizing ws with
  | zero => rfl
  | succ i ih =>
    cases ws with
    | nil => rfl
    | cons w ws => exact ih ws

/-- The words a block is decoded to, by index. -/
@[simp] theorem getElem_decodeWords (b : List Byte) {i : Nat} (hi : i < 16) :
    (decodeWords b)[i] = le32dec (b.drop (4 * i)) := by
  simp [decodeWords]

/-- The words of x are read back from the block they are encoded to. -/
theorem decodeWords_output (d : Datapath) : decodeWords d.output = d.x := by
  ext1 i hi
  have hlen : i < d.x.toList.length := by simpa using hi
  rw [getElem_decodeWords _ hi, Datapath.output, drop_flatMap_le32enc, List.drop_eq_getElem_cons hlen,
    List.flatMap_cons, le32dec_le32enc_append, Vector.getElem_toList]

theorem getElem_salsaEval_x (b : List Byte) {i : Nat} (hi : i < 16) :
    (salsaEval b).x[i] = (eightRounds (decodeWords b))[i] + le32dec (b.drop (4 * i)) := by
  simp [salsaEval]

/-- Settles O25: the output decodes to x (`decodeWords_output`), and x is the sum. -/
theorem coreAddsTheInputWordsBack : Obligations.CoreAddsTheInputWordsBack := by
  refine fun b => ⟨length_salsa208 b, fun i => ?_⟩
  calc
    le32dec ((salsa208 b).drop (4 * i.val)) = (decodeWords (salsaEval b).output)[i.val] :=
      (getElem_decodeWords _ i.isLt).symm
    _ = (salsaEval b).x[i.val] := by rw [decodeWords_output]
    _ = _ := getElem_salsaEval_x b i.isLt

/-- Two blocks with the same words in x have the same output. -/
theorem salsa208_eq_of_x_eq {b b' : List Byte} (h : (salsaEval b').x = (salsaEval b).x) : salsa208 b' = salsa208 b :=
  congrArg (fun x : Vector Word 16 => x.toList.flatMap le32enc) h

/-! ## The top bit of every word -/

/-- Bit 31 of a word. -/
def topBit : Word := 0x80000000

/-- Sixteen words with bit 31 of each flipped (R126). -/
def flipTopBits (x : Vector Word 16) : Vector Word 16 := x.map (· ^^^ topBit)

/-- The top bit of a word is the top bit of its last byte. -/
theorem le32enc_xor_topBit (w : Word) :
    le32enc (w ^^^ topBit) = [wordByte w 0, wordByte w 1, wordByte w 2, wordByte w 3 ^^^ 0x80] := by
  simp [le32enc, wordByte, topBit, BitVec.extractLsb'_xor]

theorem le32dec_flip_fourth_byte (b0 b1 b2 b3 : Byte) :
    le32dec [b0, b1, b2, b3 ^^^ 0x80] = le32dec [b0, b1, b2, b3] ^^^ topBit := by
  have bytes : le32enc (le32dec [b0, b1, b2, b3]) = [b0, b1, b2, b3] := le32enc_le32dec rfl
  simp only [le32enc, List.cons.injEq] at bytes
  obtain ⟨h0, h1, h2, h3, -⟩ := bytes
  rw [← le32dec_le32enc (_ ^^^ topBit), le32enc_xor_topBit, h0, h1, h2, h3]

theorem drop_eq_getD_cons {b : List Byte} {k : Nat} (h : k < b.length) : b.drop k = b.getD k 0 :: b.drop (k + 1) := by
  rw [List.getD_eq_getElem _ _ h, List.drop_eq_getElem_cons h]

/-- A word of a block, from its four bytes. -/
theorem le32dec_drop {b : List Byte} {k : Nat} (h : k + 4 ≤ b.length) :
    le32dec (b.drop k) = le32dec [b.getD k 0, b.getD (k + 1) 0, b.getD (k + 2) 0, b.getD (k + 3) 0] := by
  rw [drop_eq_getD_cons (by omega), drop_eq_getD_cons (by omega), drop_eq_getD_cons (by omega),
    drop_eq_getD_cons (by omega)]
  rfl

/-- Flipping the top bit of each fourth byte of a block flips the top bit of each word. -/
theorem decodeWords_of_flipped {b b' : List Byte} (hlen : b.length = 64) (hlen' : b'.length = 64)
    (h : ∀ i : Nat, i < 64 → b'.getD i 0 = if i % 4 = 3 then b.getD i 0 ^^^ 0x80 else b.getD i 0) :
    decodeWords b' = flipTopBits (decodeWords b) := by
  ext1 i hi
  have low (k : Nat) (hk : k < 64) (hlow : k % 4 ≠ 3) : b'.getD k 0 = b.getD k 0 := (h k hk).trans (if_neg hlow)
  have top : b'.getD (4 * i + 3) 0 = b.getD (4 * i + 3) 0 ^^^ 0x80 := (h _ (by omega)).trans (if_pos (by omega))
  simp only [flipTopBits, Vector.getElem_map, getElem_decodeWords]
  rw [le32dec_drop (by omega), le32dec_drop (by omega), low (4 * i) (by omega) (by omega),
    low (4 * i + 1) (by omega) (by omega), low (4 * i + 2) (by omega) (by omega), top, le32dec_flip_fourth_byte]

/-- Flipping the top bit is adding it: its carry leaves the word. -/
theorem xor_topBit (a : Word) : a ^^^ topBit = a + topBit := by
  have high : (a.toNat ^^^ 2 ^ 31) / 2 ^ 31 = a.toNat / 2 ^ 31 ^^^ 1 := Nat.xor_div_two_pow
  have low : (a.toNat ^^^ 2 ^ 31) % 2 ^ 31 = a.toNat % 2 ^ 31 := Nat.xor_mod_two_pow.trans (Nat.xor_zero _)
  have ha := a.isLt
  apply BitVec.eq_of_toNat_eq
  rw [BitVec.toNat_xor, BitVec.toNat_add]
  change a.toNat ^^^ 2 ^ 31 = (a.toNat + 2 ^ 31) % 2 ^ 32
  rcases (by omega : a.toNat / 2 ^ 31 = 0 ∨ a.toNat / 2 ^ 31 = 1) with h | h
  · rw [h, Nat.zero_xor] at high; omega
  · rw [h, Nat.xor_self] at high; omega

theorem xor_topBit_add_xor_topBit (a b : Word) : (a ^^^ topBit) + (b ^^^ topBit) = a + b := by
  have carry : topBit + topBit = 0 := by decide
  rw [xor_topBit, xor_topBit, add_add_add_comm, carry, add_zero]

end Sys2Proof.Machine
end

section
/-! PROOFS. The rounds as compositions of add-rotate-XOR steps (R121 to R124), and what follows for all of them from one step
(R126). -/

namespace Sys2Proof.Machine

open Sys2Proof

/-- Settles O24: each entry of the list is one `arx`, and the quarter-rounds are these in order. -/
theorem doubleRoundIsThe32Steps : Obligations.DoubleRoundIsThe32Steps := by
  intro x
  change doubleRound x = List.foldl (fun y (e : Fin 16 × Fin 16 × Fin 16 × Nat) => arx y e.1 e.2.1 e.2.2.1 e.2.2.2) x _
  simp only [doubleRound, columnRound, rowRound, quarterRound, List.foldl_cons, List.foldl_nil]

/-! ## From one step to the eight rounds -/

section
variable {P : (Vector Word 16 → Vector Word 16) → Prop} (hcomp : ∀ {f g}, P f → P g → P (f ∘ g))
  (harx : ∀ t a b c, t ≠ a → t ≠ b → P fun x => arx x t a b c)
include hcomp harx

/-- A quarter-round on four distinct words is four steps, none of which reads the word it changes. -/
theorem quarterRound_of_arx (a b c d : Fin 16) (h : [a, b, c, d].Nodup) : P fun x => quarterRound x a b c d := by
  simp only [List.nodup_cons, List.mem_cons, List.not_mem_nil, or_false, not_or] at h
  obtain ⟨⟨hab, hac, had⟩, ⟨hbc, hbd⟩, hcd, -⟩ := h
  exact hcomp (harx a d c 18 had hac) (hcomp (harx d c b 13 (Ne.symm hcd) (Ne.symm hbd))
    (hcomp (harx c b a 9 (Ne.symm hbc) (Ne.symm hac)) (harx b a d 7 (Ne.symm hab) hbd)))

theorem doubleRound_of_arx : P doubleRound := by
  have quarter := quarterRound_of_arx hcomp harx
  have column : P columnRound := hcomp (quarter 15 3 7 11 (by decide)) (hcomp (quarter 10 14 2 6 (by decide))
    (hcomp (quarter 5 9 13 1 (by decide)) (quarter 0 4 8 12 (by decide))))
  have row : P rowRound := hcomp (quarter 15 12 13 14 (by decide)) (hcomp (quarter 10 11 8 9 (by decide))
    (hcomp (quarter 5 6 7 4 (by decide)) (quarter 0 1 2 3 (by decide))))
  exact hcomp row column

/-- What holds of each step and of compositions holds of the eight rounds. -/
theorem eightRounds_of_arx : P eightRounds := by
  have double := doubleRound_of_arx hcomp harx
  have rounds : P (doubleRound ∘ doubleRound ∘ doubleRound ∘ doubleRound) :=
    hcomp double (hcomp double (hcomp double double))
  exact rounds

end

/-! ## The rounds are a bijection -/

/-- A step that does not read the word it changes undoes itself. -/
theorem arx_involutive (t a b : Fin 16) (c : Nat) (ha : t ≠ a) (hb : t ≠ b) :
    Function.Involutive fun x => arx x t a b c := by
  intro x
  have hta : t.val ≠ a.val := Fin.val_ne_of_ne ha
  have htb : t.val ≠ b.val := Fin.val_ne_of_ne hb
  simp [arx, hta, htb]

/-- Settles O27: each step is its own inverse. -/
theorem roundsAreABijection : Obligations.RoundsAreABijection :=
  eightRounds_of_arx Function.Bijective.comp fun t a b c ha hb => (arx_involutive t a b c ha hb).bijective

/-! ## Zero words, and words with their top bits flipped -/

theorem arx_zero (t a b : Fin 16) (c : Nat) : arx (Vector.replicate 16 0) t a b c = Vector.replicate 16 0 := by
  ext1 i hi
  simp [arx, rotl32]

theorem eightRounds_zero : eightRounds (Vector.replicate 16 0) = Vector.replicate 16 0 :=
  eightRounds_of_arx (P := fun f => Function.IsFixedPt f (Vector.replicate 16 0)) Function.IsFixedPt.comp
    fun t a b c _ _ => arx_zero t a b c

/-- A step adds two words, so it does not see their top bits flipped together. -/
theorem arx_flipTopBits (x : Vector Word 16) (t a b : Fin 16) (c : Nat) :
    arx (flipTopBits x) t a b c = flipTopBits (arx x t a b c) := by
  have sum : (flipTopBits x)[a] + (flipTopBits x)[b] = x[a] + x[b] := by
    simp [flipTopBits, xor_topBit_add_xor_topBit]
  have target : (flipTopBits x)[t] = x[t] ^^^ topBit := by simp [flipTopBits]
  unfold arx
  rw [sum, target]
  simp [flipTopBits, BitVec.xor_assoc, BitVec.xor_comm topBit]

theorem eightRounds_flipTopBits (x : Vector Word 16) : eightRounds (flipTopBits x) = flipTopBits (eightRounds x) :=
  eightRounds_of_arx (P := fun f => Function.Commute f flipTopBits) Function.Semiconj.comp_left
    (fun t a b c _ _ x => arx_flipTopBits x t a b c) x

/-- R126 (c): the rounds carry the flipped bits through, and the sum with the input drops them. -/
theorem salsaEval_x_of_flipped {b b' : List Byte} (h : decodeWords b' = flipTopBits (decodeWords b)) :
    (salsaEval b').x = (salsaEval b).x := by
  simp only [salsaEval, h, eightRounds_flipTopBits]
  ext1 i hi
  simp only [flipTopBits, Vector.getElem_zipWith, Vector.getElem_map, xor_topBit_add_xor_topBit]

/-- R126 (a). -/
theorem salsa208_zeros : salsa208 (List.replicate 64 0) = List.replicate 64 0 := by
  have words : decodeWords (List.replicate 64 0) = Vector.replicate 16 0 := by decide
  have sum : (salsaEval (List.replicate 64 0)).x = Vector.replicate 16 0 := by
    simp only [salsaEval, words, eightRounds_zero]
    ext1 i hi
    simp
  rw [salsa208, Datapath.output, sum]
  decide

/-- Settles O26: the second block is the zero block with the top bit of each word flipped. -/
theorem flippingEveryTopBitKeepsTheOutput : Obligations.FlippingEveryTopBitKeepsTheOutput := by
  have flipped : ∀ b b' : List Byte, b.length = 64 → b'.length = 64 →
      (∀ i : Nat, i < 64 → b'.getD i 0 = if i % 4 = 3 then b.getD i 0 ^^^ 0x80 else b.getD i 0) →
      salsa208 b' = salsa208 b :=
    fun b b' hlen hlen' h => salsa208_eq_of_x_eq (salsaEval_x_of_flipped (decodeWords_of_flipped hlen hlen' h))
  exact ⟨flipped, salsa208_zeros, (flipped (List.replicate 64 0) _ rfl rfl (by decide)).trans salsa208_zeros⟩

end Sys2Proof.Machine
end

section
/-! PROOFS. The SALSA command (R127). -/

namespace Sys2Proof.Machine

open Sys2Proof

/-- A load from the start of BUF returns the block that was stored there. -/
theorem State.loadBuf_storeBuf (s : State) (bytes : List Byte) : (s.storeBuf 0 bytes).loadBuf bytes.length = bytes := by
  rw [State.loadBuf_eq]
  refine List.ext_getElem (by simp) fun i _ hi => ?_
  simp [State.bufByte_storeBuf, hi]

/-- BUF after SALSA: the output block, then what stood there. -/
theorem State.bufByte_storeBuf_salsa208 (s : State) (b : List Byte) (a : Nat) :
    (s.storeBuf 0 (salsa208 b)).bufByte a = if a < 64 then (salsa208 b).getD a 0 else s.bufByte a := by
  simp [State.bufByte_storeBuf]

/-- Settles O28: SALSA stores the output of one evaluation (`execSalsa`), which a load of 64 bytes reads back. -/
theorem salsaReplacesTheFirst64Bytes : Obligations.SalsaReplacesTheFirst64Bytes := by
  intro s
  rw [← State.loadBuf_eq]
  refine ⟨_, rfl, fun a => s.bufByte_storeBuf_salsa208 _ a, rfl, ?_, rfl⟩
  calc
    salsa208 (s.loadBuf 64) = (s.storeBuf 0 (salsa208 (s.loadBuf 64))).loadBuf 64 := by
      simpa only [length_salsa208] using (s.loadBuf_storeBuf (salsa208 (s.loadBuf 64))).symm
    _ = _ := State.loadBuf_eq _ 64

end Sys2Proof.Machine
end

section
/-! PROOFS. BlockMix as lists of 64-byte sub-blocks: the chain of the core (R141, R143), the de-interleave (R144) and the
all-zero block (R145). -/

namespace Sys2Proof.Machine

open Sys2Proof

/-! ## The chain (R143) -/

theorem getD_blkxor {a b : List Byte} (hlen : a.length = b.length) {t : Nat} (ht : t < a.length) :
    (blkxor a b).getD t 0 = a.getD t 0 ^^^ b.getD t 0 := by
  have ht' : t < b.length := hlen ▸ ht
  simp [blkxor, ht, ht']

/-- After its first evaluation, each output of a chain is the core on the output before it XOR the next sub-block. -/
theorem getD_scratchY_mixChain_succ (x : List Byte) {bs : List (List Byte)} {i : Nat} (hi : i + 1 < bs.length) :
    (scratchY (mixChain x bs)).getD (i + 1) [] =
      salsa208 (blkxor ((scratchY (mixChain x bs)).getD i []) (bs.getD (i + 1) [])) := by
  induction bs generalizing x i with
  | nil => cases hi
  | cons b bs ih =>
    cases i with
    | succ i => exact ih _ (Nat.lt_of_succ_lt_succ hi)
    | zero =>
      cases bs with
      | nil => exact absurd hi (Nat.lt_irrefl 1)
      | cons b' bs => rfl

theorem getD_map_range_subBlock (b : List Byte) {n i : Nat} (hi : i < n) :
    ((List.range n).map (subBlock b)).getD i [] = subBlock b i := by
  simp [hi]

theorem getD_scratchY_blockMixChain_zero (b : List Byte) {r : Nat} (hr : 1 ≤ r) :
    (scratchY (blockMixChain b r)).getD 0 [] = salsa208 (blkxor (subBlock b (2 * r - 1)) (subBlock b 0)) := by
  obtain ⟨n, hn⟩ : ∃ n, 2 * r = n + 1 := ⟨2 * r - 1, by omega⟩
  rw [blockMixChain, hn, List.range_succ_eq_map]
  rfl

theorem getD_scratchY_blockMixChain_succ (b : List Byte) {r i : Nat} (hi : i + 1 < 2 * r) :
    (scratchY (blockMixChain b r)).getD (i + 1) [] =
      salsa208 (blkxor ((scratchY (blockMixChain b r)).getD i []) (subBlock b (i + 1))) := by
  rw [← getD_map_range_subBlock b hi]
  exact getD_scratchY_mixChain_succ _ (by simpa using hi)

/-- Settles O29, by the first evaluation of the chain and the one after each. -/
theorem blockMixChainsTheCore : Obligations.BlockMixChainsTheCore := by
  refine ⟨fun a b hlen => ⟨by simp [hlen], fun t ht => getD_blkxor hlen ht⟩, ?_⟩
  rintro b r _ hr - rfl
  exact ⟨getD_scratchY_blockMixChain_zero b hr, fun i hi => getD_scratchY_blockMixChain_succ b hi⟩

/-! ## The de-interleave (R144) -/

/-- The sub-blocks of 64-byte blocks joined are these blocks. -/
theorem subBlock_flatten {ys : List (List Byte)} (h : ∀ y ∈ ys, y.length = 64) (i : Nat) :
    subBlock ys.flatten i = ys.getD i [] := by
  induction ys generalizing i with
  | nil => simp [subBlock]
  | cons y ys ih =>
    obtain ⟨hy, hys⟩ := List.forall_mem_cons.mp h
    cases i with
    | zero => exact List.take_left' hy
    | succ i =>
      rw [List.getD_cons_succ, ← ih hys, subBlock, subBlock, List.flatten_cons, Nat.mul_succ, Nat.add_comm,
        ← List.drop_drop, List.drop_left' hy]

/-- The sub-blocks in the order the de-interleave puts them. -/
def evenThenOdd (y : List (List Byte)) (r : Nat) : List (List Byte) :=
  (List.range r).map (fun t => y.getD (2 * t) []) ++ (List.range r).map fun t => y.getD (2 * t + 1) []

theorem deinterleave_eq_flatten (y : List (List Byte)) (r : Nat) : deinterleave y r = (evenThenOdd y r).flatten := by
  simp [deinterleave, evenThenOdd, List.flatMap_def]

theorem getD_evenThenOdd_even (y : List (List Byte)) {r t : Nat} (ht : t < r) :
    (evenThenOdd y r).getD t [] = y.getD (2 * t) [] := by
  simp [evenThenOdd, List.getElem?_append, ht]

theorem getD_evenThenOdd_odd (y : List (List Byte)) {r t : Nat} (ht : t < r) :
    (evenThenOdd y r).getD (r + t) [] = y.getD (2 * t + 1) [] := by
  simp [evenThenOdd, ht]

/-- Every block the de-interleave places is one of the chain's outputs. -/
theorem mem_of_mem_evenThenOdd {y : List (List Byte)} {r : Nat} (hlen : y.length = 2 * r) {b : List Byte}
    (hb : b ∈ evenThenOdd y r) : b ∈ y := by
  have inside (i : Nat) (hi : i < 2 * r) : y.getD i [] ∈ y := by
    rw [List.getD_eq_getElem _ _ (hlen ▸ hi)]
    exact List.getElem_mem _
  rcases List.mem_append.mp hb with hb | hb
  all_goals
    obtain ⟨t, ht, rfl⟩ := List.mem_map.mp hb
    have := List.mem_range.mp ht
    exact inside _ (by omega)

theorem length_of_mem_scratchY {chain : List Datapath} {y : List Byte} (h : y ∈ scratchY chain) : y.length = 64 := by
  obtain ⟨d, -, rfl⟩ := List.mem_map.mp h
  exact length_output d

theorem subBlock_blockMix (b : List Byte) (r i : Nat) :
    subBlock (blockMix b r) i = (evenThenOdd (scratchY (blockMixChain b r)) r).getD i [] := by
  rw [blockMix, deinterleave_eq_flatten]
  exact subBlock_flatten (fun y hy => length_of_mem_scratchY (mem_of_mem_evenThenOdd (by simp) hy)) i

theorem subBlock_blockMix_even (b : List Byte) {r t : Nat} (ht : t < r) :
    subBlock (blockMix b r) t = (scratchY (blockMixChain b r)).getD (2 * t) [] :=
  (subBlock_blockMix b r t).trans (getD_evenThenOdd_even _ ht)

theorem subBlock_blockMix_odd (b : List Byte) {r t : Nat} (ht : t < r) :
    subBlock (blockMix b r) (r + t) = (scratchY (blockMixChain b r)).getD (2 * t + 1) [] :=
  (subBlock_blockMix b r (r + t)).trans (getD_evenThenOdd_odd _ ht)

/-- The last output of the chain stays last. -/
theorem subBlock_blockMix_last (b : List Byte) {r : Nat} (hr : 1 ≤ r) :
    subBlock (blockMix b r) (2 * r - 1) = (scratchY (blockMixChain b r)).getD (2 * r - 1) [] := by
  have last : 2 * r - 1 = r + (r - 1) := by omega
  have odd : 2 * r - 1 = 2 * (r - 1) + 1 := by omega
  conv_lhs => rw [last]
  rw [odd]
  exact subBlock_blockMix_odd b (Nat.sub_one_lt_of_lt hr)

/-- Settles O30: an even i is 2t and an odd one 2t + 1, and both forms say where that sub-block goes. -/
theorem deinterleavePlacesEvenThenOdd : Obligations.DeinterleavePlacesEvenThenOdd := by
  rintro b r _ hr - rfl
  refine ⟨fun i hi heven => ?_, fun i hi hodd => ?_,
    fun t ht => ⟨subBlock_blockMix_even b ht, subBlock_blockMix_odd b ht⟩, ?_, subBlock_blockMix_last b hr⟩
  · rw [subBlock_blockMix_even b (by omega), Nat.mul_div_cancel' (Nat.dvd_of_mod_eq_zero heven)]
  · have hi' : 2 * ((i - 1) / 2) + 1 = i := by omega
    rw [subBlock_blockMix_odd b (by omega), hi']
  · rintro rfl
    simp [blockMix, deinterleave]

/-! ## The all-zero block (R145) -/

theorem blkxor_zeros (n : Nat) : blkxor (List.replicate n 0) (List.replicate n 0) = List.replicate n 0 := by
  simp [blkxor]

theorem subBlock_zeros {n i : Nat} (hi : 64 * i + 64 ≤ n) : subBlock (List.replicate n 0) i = List.replicate 64 0 := by
  have : 64 ≤ n - 64 * i := by omega
  simp [subBlock, this]

theorem scratchY_mixChain_zeros (n : Nat) :
    scratchY (mixChain (List.replicate 64 0) (List.replicate n (List.replicate 64 0))) =
      List.replicate n (List.replicate 64 0) := by
  induction n with
  | zero => rfl
  | succ n ih =>
    have output : (salsaEval (List.replicate 64 0)).output = List.replicate 64 0 := salsa208_zeros
    rw [List.replicate_succ (n := n), mixChain, blkxor_zeros, output]
    exact congrArg₂ _ output ih

theorem scratchY_blockMixChain_zeros {r : Nat} (hr : 1 ≤ r) :
    scratchY (blockMixChain (List.replicate (128 * r) 0) r) = List.replicate (2 * r) (List.replicate 64 0) := by
  have blocks : (List.range (2 * r)).map (subBlock (List.replicate (128 * r) 0)) =
      List.replicate (2 * r) (List.replicate 64 0) := by
    refine List.eq_replicate_iff.mpr ⟨by simp, fun y hy => ?_⟩
    obtain ⟨i, hi, rfl⟩ := List.mem_map.mp hy
    have := List.mem_range.mp hi
    exact subBlock_zeros (by omega)
  rw [blockMixChain, blocks, subBlock_zeros (by omega), scratchY_mixChain_zeros]

theorem blockMix_zeros {r : Nat} (hr : 1 ≤ r) :
    blockMix (List.replicate (128 * r) 0) r = List.replicate (128 * r) 0 := by
  refine List.eq_replicate_iff.mpr ⟨length_blockMix _ r, fun byte hbyte => ?_⟩
  rw [blockMix, scratchY_blockMixChain_zeros hr, deinterleave_eq_flatten] at hbyte
  obtain ⟨y, hy, hbyte⟩ := List.mem_flatten.mp hbyte
  obtain rfl := List.eq_of_mem_replicate (mem_of_mem_evenThenOdd List.length_replicate hy)
  exact List.eq_of_mem_replicate hbyte

/-- Settles O31: every evaluation of the chain is the core on the all-zero block (`salsa208_zeros`). -/
theorem blockMixKeepsLengthAndZero : Obligations.BlockMixKeepsLengthAndZero :=
  fun r hr => ⟨fun b _ => length_blockMix b r, blockMix_zeros hr⟩

end Sys2Proof.Machine
end

section
/-! PROOFS. RCheck (R146) and the BMIX command (R147). -/

namespace Sys2Proof.Machine

open Sys2Proof

/-! ## RCheck (R146) -/

theorem rCheck_invalid (c : Config) {r : Nat} (h : r ≥ 2 ^ 30 ∨ r = 0) : rCheck c r = .error .invalidParameter := by
  rcases h with hlarge | rfl
  · exact if_pos hlarge
  · rw [rCheck, if_pos rfl, ite_self]

theorem rCheck_exhausted {c : Config} {r : Nat} (hlt : r < 2 ^ 30) (hne : r ≠ 0)
    (h : 256 * r > c.sizeMax ∨ r > c.rMax) : rCheck c r = .error .resourceExhausted := by
  rw [rCheck, if_neg (Nat.not_le.mpr hlt), if_neg hne]
  rcases h with hsize | hmax
  · exact if_pos hsize
  · rw [if_pos hmax, ite_self]

theorem rCheck_legal {c : Config} {r : Nat} (hlt : r < 2 ^ 30) (hne : r ≠ 0) (hsize : 256 * r ≤ c.sizeMax)
    (hmax : r ≤ c.rMax) : rCheck c r = .ok () := by
  rw [rCheck, if_neg (Nat.not_le.mpr hlt), if_neg hne, if_neg (Nat.not_lt.mpr hsize), if_neg (Nat.not_lt.mpr hmax)]

/-- With N = p = 1 each test of ParamCheck is one of RCheck's: 128·r is below 256·r, and V holds one block of R_MAX. -/
theorem rCheck_eq_paramCheck {c : Config} (hv : c.vBytes ≥ 128 * c.rMax) (r : Nat) : rCheck c r = paramCheck c 1 r 1 := by
  have pow : ¬ ((1 : Nat) = 0 ∨ isPow2 1 = false) := by decide
  have zero : (r = 0 ∨ (1 : Nat) = 0) ↔ r = 0 := by omega
  have size : (128 * r * 1 > c.sizeMax ∨ 256 * r > c.sizeMax ∨ 128 * r * 1 > c.sizeMax) ↔ 256 * r > c.sizeMax := by omega
  have memory : (r > c.rMax ∨ 128 * r * 1 > c.vBytes) ↔ r > c.rMax := by omega
  rw [paramCheck, if_neg pow, Nat.mul_one r]
  simp only [zero, size, memory, rCheck]

/-- Settles O32, a lemma for each verdict and `rCheck_eq_paramCheck`. -/
theorem rCheckTestsInOrder : Obligations.RCheckTestsInOrder :=
  fun c r => ⟨fun h => rCheck_invalid c (.inl h), fun _ h => rCheck_invalid c (.inr h),
    fun hl hz h => rCheck_exhausted hl hz (.inl h), fun hl hz _ h => rCheck_exhausted hl hz (.inr h),
    fun hl hz hs hm => rCheck_legal hl hz hs hm, fun hv => rCheck_eq_paramCheck hv r⟩

/-! ## BMIX (R147) -/

/-- The datapath keeps the words of the last sub-block of Y. -/
theorem State.output_latchChain (s : State) {chain : List Datapath} (h : chain ≠ []) :
    (s.latchChain chain).dp.output = (scratchY chain).getD (chain.length - 1) [] := by
  have hlast : chain.length - 1 < chain.length := Nat.sub_one_lt (by simpa using h)
  simp [scratchY, List.getLast?_eq_getElem?, hlast]

/-- Settles O33: BUF and XY byte by byte, and the last evaluation is the last sub-block of the result. -/
theorem bmixReplacesTheBlock : Obligations.BmixReplacesTheBlock := by
  rintro s _ _ rfl hr hlt hmax hsize rfl
  rw [← State.loadBuf_eq]
  have hlen := length_blockMixChain (s.loadBuf (128 * s.r.toNat)) s.r.toNat
  refine ⟨_, execBmix_ok (rCheck_legal hlt (Nat.ne_of_gt hr) hsize hmax),
    fun a => State.bufByte_writeBlockMix s _ _ hlen a, fun a => ?_, ?_, rfl⟩
  · refine (State.xyByte_writeBlockMix s _ s.r.toNat a).trans ?_
    rw [hlen, ← Nat.mul_assoc]
  · rw [subBlock_blockMix_last _ hr, ← hlen]
    exact State.output_latchChain _ (List.ne_nil_of_length_pos (by omega))

/-- Settles O34: an error of RCheck is all that BMIX does. -/
theorem bmixErrorsChangeOnlyStatus : Obligations.BmixErrorsChangeOnlyStatus := by
  rintro s _ rfl
  exact ⟨fun h => execBmix_error (rCheck_invalid s.cfg h),
    fun hlt hne h => execBmix_error (rCheck_exhausted hlt hne h)⟩

end Sys2Proof.Machine
end

section
/-! PROOFS. IsPow2 (R155) and ParamCheck (R157, R158), and the PCHK command (R165). -/

namespace Sys2Proof.Machine

open Sys2Proof

/-! ## IsPow2 (R155) -/

theorem isPow2_iff_and (n : Nat) : isPow2 n = true ↔ n ≠ 0 ∧ (n &&& (n - 1)) = 0 := by
  simp [isPow2]

theorem isPow2_iff (n : Nat) : isPow2 n = true ↔ ∃ e : Nat, n = 2 ^ e :=
  (isPow2_iff_and n).trans Nat.ne_zero_and_sub_one_eq_zero_iff_isPowerOfTwo

/-- A power of two in a 32-bit register has its exponent below 32. -/
theorem exists_exponent_of_lt_word {n : Nat} (hn : n < 2 ^ 32) (h : ∃ e : Nat, n = 2 ^ e) :
    ∃ e : Nat, e ≤ 31 ∧ n = 2 ^ e := by
  obtain ⟨e, rfl⟩ := h
  have : e < 32 := (Nat.pow_lt_pow_iff_right Nat.one_lt_two).mp hn
  exact ⟨e, Nat.le_of_lt_succ this, rfl⟩

/-- Settles O35, by `isPow2_iff_and` and `isPow2_iff`. -/
theorem isPow2MeansAPowerOfTwo : Obligations.IsPow2MeansAPowerOfTwo :=
  fun n => ⟨isPow2_iff n, isPow2_iff_and n, rfl, rfl, fun hn =>
    (isPow2_iff n).trans ⟨exists_exponent_of_lt_word hn, fun ⟨e, _, he⟩ => ⟨e, he⟩⟩⟩

/-! ## ParamCheck (R157) -/

/-- Test 2 of R157: no power of two is 0. -/
theorem zero_or_isPow2_false_iff (n : Nat) : (n = 0 ∨ isPow2 n = false) ↔ ¬ ∃ e : Nat, n = 2 ^ e := by
  rw [← isPow2_iff, Bool.not_eq_true, or_iff_right_iff_imp]
  rintro rfl
  rfl

/-- Tests 1 to 3 of R157. -/
theorem paramCheck_invalid (c : Config) {n r p : Nat}
    (h : r * p ≥ 2 ^ 30 ∨ (¬ ∃ e : Nat, n = 2 ^ e) ∨ r = 0 ∨ p = 0) :
    paramCheck c n r p = .error .invalidParameter := by
  rw [paramCheck]
  rcases h with hlarge | hpow | hzero
  · exact if_pos hlarge
  · rw [if_pos ((zero_or_isPow2_false_iff n).mpr hpow), ite_self]
  · rw [if_pos hzero, ite_self, ite_self]

section
variable {c : Config} {n r p : Nat} (hlt : r * p < 2 ^ 30) (hpow : ∃ e : Nat, n = 2 ^ e) (hr : r ≠ 0) (hp : p ≠ 0)
include hlt hpow hr hp

/-- Past tests 1 to 3 of R157, tests 4 and 5 are left. -/
theorem paramCheck_valid : paramCheck c n r p =
    if 128 * r * p > c.sizeMax ∨ 256 * r > c.sizeMax ∨ 128 * r * n > c.sizeMax then .error .resourceExhausted
    else if r > c.rMax ∨ 128 * r * n > c.vBytes then .error .resourceExhausted
    else .ok () := by
  rw [paramCheck, if_neg (Nat.not_le.mpr hlt), if_neg ((zero_or_isPow2_false_iff n).not_left.mpr hpow),
    if_neg (not_or.mpr ⟨hr, hp⟩)]

theorem paramCheck_exhausted
    (h : 128 * r * p > c.sizeMax ∨ 256 * r > c.sizeMax ∨ 128 * r * n > c.sizeMax ∨ r > c.rMax ∨ 128 * r * n > c.vBytes) :
    paramCheck c n r p = .error .resourceExhausted := by
  rw [paramCheck_valid hlt hpow hr hp]
  split_ifs with hsize hcap
  · rfl
  · rfl
  · omega

theorem paramCheck_legal (hlanes : 128 * r * p ≤ c.sizeMax) (hxy : 256 * r ≤ c.sizeMax) (hv : 128 * r * n ≤ c.sizeMax)
    (hmax : r ≤ c.rMax) (hcap : 128 * r * n ≤ c.vBytes) : paramCheck c n r p = .ok () := by
  rw [paramCheck_valid hlt hpow hr hp, if_neg (by omega), if_neg (by omega)]

end

/-- What the verdict ok says: none of the tests of R157 fired. -/
theorem legal_of_paramCheck_ok {c : Config} {n r p : Nat} (h : paramCheck c n r p = .ok ()) :
    r * p < 2 ^ 30 ∧ (∃ e : Nat, n = 2 ^ e) ∧ r ≠ 0 ∧ p ≠ 0 ∧ 128 * r * p ≤ c.sizeMax ∧ 256 * r ≤ c.sizeMax ∧
      128 * r * n ≤ c.sizeMax ∧ r ≤ c.rMax ∧ 128 * r * n ≤ c.vBytes := by
  unfold paramCheck at h
  split_ifs at h with hlarge hpow hzero hsize hcap
  rw [zero_or_isPow2_false_iff, not_not] at hpow
  simp only [not_or, Nat.not_lt, Nat.not_le] at hlarge hzero hsize hcap
  obtain ⟨hr, hp⟩ := hzero
  obtain ⟨hlanes, hxy, hv⟩ := hsize
  exact ⟨hlarge, hpow, hr, hp, hlanes, hxy, hv, hcap⟩

/-- Settles O36, a lemma for each verdict and `legal_of_paramCheck_ok`. -/
theorem paramCheckTestsInOrder : Obligations.ParamCheckTestsInOrder := by
  intro c n r p
  refine ⟨fun h => paramCheck_invalid c (.inl h), fun _ h => paramCheck_invalid c (.inr (.inl h)),
    fun _ _ h => paramCheck_invalid c (.inr (.inr h)),
    fun hlt hpow hr hp h => paramCheck_exhausted hlt hpow hr hp (by omega),
    fun hlt hpow hr hp _ _ _ h => paramCheck_exhausted hlt hpow hr hp (by omega), paramCheck_legal, fun hn h => ?_⟩
  obtain ⟨hlt, hpow, hr, hp, -, -, -, hmax, hcap⟩ := legal_of_paramCheck_ok h
  exact ⟨exists_exponent_of_lt_word hn hpow, Nat.pos_of_ne_zero hr, hmax, Nat.pos_of_ne_zero hp, hlt, hcap⟩

/-! ## PCHK (R165) -/

/-- The lanes are the host's: one lane is legal where several are. -/
theorem paramCheck_one_lane {c : Config} {n r p : Nat} (h : paramCheck c n r p = .ok ()) :
    paramCheck c n r 1 = .ok () := by
  obtain ⟨hlt, hpow, hr, hp, -, hxy, hv, hmax, hcap⟩ := legal_of_paramCheck_ok h
  have : r ≤ r * p := Nat.le_mul_of_pos_right r (Nat.pos_of_ne_zero hp)
  exact paramCheck_legal (by omega) hpow hr Nat.one_ne_zero (by omega) hxy hv hmax hcap

/-- Settles O37: PCHK ends with the verdict (`execPchk_ok`, `execPchk_error`), and one lane asks less than p. -/
theorem pchkGivesTheVerdictOfR157 : Obligations.PchkGivesTheVerdictOfR157 := by
  rintro s _ _ _ rfl rfl rfl
  refine ⟨fun hpow hr hp hlt hsize hxy hv hmax hcap => ?_, fun h => execPchk_error (paramCheck_invalid s.cfg h),
    fun hlt hpow hr hp h => execPchk_error (paramCheck_exhausted hlt hpow hr hp h), paramCheck_one_lane⟩
  exact execPchk_ok (paramCheck_legal hlt hpow (Nat.ne_of_gt hr) (Nat.ne_of_gt hp) hsize hxy hv hmax hcap)

end Sys2Proof.Machine
end

section
/-! PROOFS. The ROMIX command (R161 to R163) and the index of its phase 2 (R159, R160). -/

namespace Sys2Proof.Machine

open Sys2Proof

/-! ## What the completion of ROMIX leaves in BUF, XY and V (R92, R163) -/

theorem State.bufByte_finish (s : State) (a : Nat) : s.finish.bufByte a = s.bufByte a := rfl

theorem State.xyByte_finish (s : State) (a : Nat) : s.finish.xyByte a = s.xyByte a := rfl

theorem State.vByte_finish (s : State) (a : Nat) : s.finish.vByte a = s.vByte a := rfl

/-- XY after ROMIX starts with the final X. -/
theorem State.xyByte_writeRomix_of_lt (s : State) (m : Mixing) {a : Nat} (ha : a < m.x.length) :
    (s.writeRomix m).xyByte a = m.x.getD a 0 := by
  rw [State.xyByte_writeRomix, if_pos (Nat.lt_add_right _ ha), List.getD_append _ _ _ _ ha]

/-- What ROMIX writes and its completion leave everything else alone. -/
theorem State.finish_writeRomix_frame (s : State) (m : Mixing) :
    (s.writeRomix m).finish = { s with
      buf := (s.writeRomix m).finish.buf, v := (s.writeRomix m).finish.v, xy := (s.writeRomix m).finish.xy,
      dp := (s.writeRomix m).finish.dp, status := { s.status with done := true, busy := false } } := by
  cases s
  rfl

/-- V after ROMIX: entry i is BlockMix applied i times to the block. -/
theorem byte_romix_v (c : Config) (fresh : Nat → Byte) (v : Memory) {b : List Byte} {n r i a : Nat}
    (hb : b.length = 128 * r) (hi : i < n) (ha : a < 128 * r) :
    Memory.byte fresh (romix c fresh v b n r).v (vaddr r i + a) = ((fun y => blockMix y r)^[i] b).getD a 0 := by
  rw [romix_v, Memory.byte, fill_lookup r n _ hb i a ha, if_pos hi]

/-! ## ROMIX (R163) -/

/-- Settles O38: X is ROMix on a local table (`romix_x`), V holds that table, and `execRomix_frame` says what stays. -/
theorem romixComputesRomix : Obligations.RomixComputesRomix := by
  rintro s _ _ _ rfl rfl hpow hr hlt hxy hv hmax hcap rfl
  rw [← State.loadBuf_eq]
  have hchk : paramCheck s.cfg s.n.toNat s.r.toNat 1 = .ok () :=
    paramCheck_legal (by omega) hpow (Nat.ne_of_gt hr) Nat.one_ne_zero (by omega) hxy hv hmax hcap
  obtain ⟨hn, -, -⟩ := bounds_of_paramCheck_ok hchk
  obtain ⟨-, -, hxyAbove, hvAbove⟩ := execRomix_frame (execRomix_ok hchk)
  have hb := s.length_loadBuf (128 * s.r.toNat)
  have hx := romix_x s.cfg (s.fresh .v) s.v _ s.n.toNat _ hn hb
  have hlen := length_localRomix s.cfg (s.loadBuf (128 * s.r.toNat)) s.n.toNat s.r.toNat hn
  refine ⟨_, execRomix_ok hchk, fun a => ?_, fun i a hi ha => ?_, hvAbove, fun a ha => ?_, hxyAbove,
    State.finish_writeRomix_frame s _⟩
  · rw [State.bufByte_finish, State.bufByte_writeRomix, hx, hlen]
  · rw [State.vByte_finish, State.vByte_writeRomix]
    exact byte_romix_v s.cfg _ s.v hb hi ha
  · rw [State.xyByte_finish, State.bufByte_finish, State.bufByte_writeRomix,
      State.xyByte_writeRomix_of_lt s _ (by rw [hx, hlen]; exact ha), hx, hlen, if_pos ha]

/-- Settles O39: an error of ParamCheck for one lane is all that ROMIX does. -/
theorem romixErrorsChangeOnlyStatus : Obligations.RomixErrorsChangeOnlyStatus := by
  rintro s _ _ rfl rfl
  exact ⟨fun h => execRomix_error (paramCheck_invalid s.cfg (by simpa using h)),
    fun hlt hpow hr h => execRomix_error (paramCheck_exhausted (by omega) hpow hr Nat.one_ne_zero (by omega))⟩

/-! ## The index of phase 2 (R159, R160) -/

theorem ioff_exception {c : Config} {r o : Nat} (h : c.ioffExceptions.lookup r = some o) : ioff c r = o := by
  rw [ioff, h, Option.getD_some]

theorem ioff_default {c : Config} {r : Nat} (h : c.ioffExceptions.lookup r = none) (h64 : c.ioffFromEnd = 64) :
    ioff c r = 128 * r - 64 := by
  rw [ioff, h, h64, Option.getD_none]

theorem leNat_append (a b : List Byte) : leNat (a ++ b) = leNat a + 256 ^ a.length * leNat b := by
  induction a with
  | nil => simp [leNat]
  | cons x xs ih => rw [List.cons_append, leNat, ih, leNat, List.length_cons]; ring

/-- Below 2^32 the upper four of the eight bytes have no weight (R160). -/
theorem le64dec_mod_two_pow {b : List Byte} (hb : 4 ≤ b.length) {e : Nat} (he : e ≤ 32) :
    le64dec b % 2 ^ e = (le32dec b).toNat % 2 ^ e := by
  have split : b.take 8 = b.take 4 ++ (b.drop 4).take 4 := List.take_add (i := 4) (j := 4)
  have hlow : (b.take 4).length = 4 := List.length_take_of_le hb
  have hdvd : 2 ^ e ∣ 256 ^ 4 * leNat ((b.drop 4).take 4) := Dvd.dvd.mul_right (pow_dvd_pow 2 he) _
  rw [le64dec, split, leNat_append, hlow, toNat_le32dec, Nat.add_mod, Nat.mod_eq_zero_of_dvd hdvd, Nat.add_zero,
    Nat.mod_mod]

theorem le64dec_take {b : List Byte} {k : Nat} (hk : 8 ≤ k) : le64dec (b.take k) = le64dec b := by
  rw [le64dec, le64dec, List.take_take, Nat.min_eq_left hk]

theorem length_subBlock {b : List Byte} {i : Nat} (h : 64 * i + 64 ≤ b.length) : (subBlock b i).length = 64 := by
  rw [subBlock, List.length_take_of_le]
  rw [List.length_drop]
  omega

theorem integerify_eq_subBlock {c : Config} {x : List Byte} {r : Nat} (h : ioff c r = 128 * r - 64) :
    integerify c x r = le64dec (subBlock x (2 * r - 1)) := by
  have offset : 128 * r - 64 = 64 * (2 * r - 1) := by omega
  rw [integerify, h, offset, subBlock, le64dec_take (by decide)]

/-- Settles O40: the eight bytes start the last sub-block, and a power of two up to 2^32 sees the first four only. -/
theorem indexComesFromTheLastSubBlock : Obligations.IndexComesFromTheLastSubBlock := by
  refine ⟨fun c r o => ⟨ioff_exception, ioff_default⟩, ?_⟩
  rintro c x _ r e hoff hr hlen rfl he
  have hsub : (subBlock x (2 * r - 1)).length = 64 := length_subBlock (by omega)
  refine ⟨Nat.mod_lt _ (Nat.two_pow_pos e), integerify_eq_subBlock hoff, ?_⟩
  rw [integerify_eq_subBlock hoff, le64dec_mod_two_pow (by omega) (by omega)]

end Sys2Proof.Machine
end

section
/-! PROOFS. The table selection: the index and its range (R181, R182), and the HSEL command (R184). -/

namespace Sys2Proof.Machine

open Sys2Proof

/-! ## SizeExp and the index (R181, R182) -/

theorem sizeExp_default {c : Config} {d : Word} (h : c.sizeExceptions.lookup d = none) :
    sizeExp c d = d.toNat / 2 ^ 24 := by
  have hd := d.isLt
  rw [sizeExp, h, Option.getD_none, BitVec.extractLsb'_toNat, Nat.shiftRight_eq_div_pow]
  omega

theorem sizeExp_exception {c : Config} {d : Word} {k : Nat} (h : c.sizeExceptions.lookup d = some k) :
    sizeExp c d = k := by
  rw [sizeExp, h, Option.getD_some]

/-- Settles O41: SizeExp is a natural number, so only the lower end of the range can be missed. -/
theorem tableIndexRangeOfR182 : Obligations.TableIndexRangeOfR182 := by
  intro c d
  rw [tableIndex]
  exact ⟨sizeExp_default, fun _ => sizeExp_exception, by omega, by omega⟩

theorem tableRow_of_index {c : Config} {d : Word} {idx : Nat} (h : (idx : Int) = tableIndex c d) :
    tableRow c (tableIndex c d) = c.table[idx]? := by
  rw [← h, tableRow, if_neg (Int.natCast_nonneg idx).not_gt, Int.toNat_natCast]

theorem tableRow_out_of_range {c : Config} {d : Word} (h : 2 * (sizeExp c d : Int) > (c.tableLen : Int) - 1) :
    tableRow c (tableIndex c d) = none :=
  if_pos (Int.sub_neg_of_lt h)

/-! ## HSEL (R184) -/

theorem toNat_tblidxWord {idx : Nat} (h : idx < 2 ^ 32) : (tblidxWord idx).toNat = idx := by
  rw [tblidxWord, if_pos h, BitVec.toNat_ofNat, Nat.mod_eq_of_lt h]

/-- Settles O42: the row at the index is the one HSEL finds, and 1024 times its multiplier fits N. -/
theorem hselSelectsTheRow : Obligations.HselSelectsTheRow := by
  intro s idx row hidx hrow hm
  have hfound := (tableRow_of_index hidx).trans hrow
  have fits : 1024 * row.multiplier.toNat < 2 ^ 32 := by omega
  have hnat : (tableIndex s.cfg s.diff).toNat = idx := (congrArg Int.toNat hidx).symm
  refine ⟨_, execHsel_ok hfound fits.not_ge, fun hlt => ?_, ?_, rfl⟩
  · rw [hnat, State.finish_tblidx, State.selectRow_tblidx, toNat_tblidxWord hlt]
  · rw [State.finish_n, State.selectRow_n, BitVec.toNat_ofNat, Nat.mod_eq_of_lt fits]

/-- Settles O43: a failed test of R184 is all that HSEL does. -/
theorem hselErrorsChangeOnlyStatus : Obligations.HselErrorsChangeOnlyStatus := by
  refine fun s => ⟨fun h => execHsel_out_of_range (tableRow_out_of_range h), fun idx row hidx hrow hm => ?_⟩
  exact execHsel_too_wide ((tableRow_of_index hidx).trans hrow) (by omega)

end Sys2Proof.Machine
end

section
/-! PROOFS. The header XOR (R185), the mask commands (R188, R189), and what the mask makes of Val(OUT) (R190). -/

namespace Sys2Proof.Machine

open Sys2Proof

/-! ## HXOR (R185) -/

theorem getElem_headerXor (sb hdr : Vector Byte 80) (i : Fin 80) :
    (headerXor sb hdr)[i] = if i.val < 76 then sb[i] ^^^ hdr[i] else hdr[i] :=
  Vector.getElem_ofFn i.isLt

theorem getElem_headerXor_twice (sb hdr : Vector Byte 80) (i : Fin 80) :
    (headerXor (headerXor sb hdr) hdr)[i] = if i.val < 76 then sb[i] else hdr[i] := by
  rw [getElem_headerXor, getElem_headerXor]
  split_ifs
  · rw [BitVec.xor_assoc, BitVec.xor_self, BitVec.xor_zero]
  · rfl

/-- Settles O44, by the bytes of one `headerXor` and of two. -/
theorem hxorMixesTheHeader : Obligations.HxorMixesTheHeader :=
  fun s => ⟨_, rfl, getElem_headerXor s.sbuf s.hdr, rfl, _, rfl, getElem_headerXor_twice s.sbuf s.hdr⟩

/-! ## HMASK and HCOMB (R188, R189) -/

/-- Settles O46, which is what `State.setMask` writes. -/
theorem hmaskWritesCountAndMask : Obligations.HmaskWritesCountAndMask := fun _ => rfl

theorem getElem_combine (h s2 m : Vector Byte 32) (i : Fin 32) : (combine h s2 m)[i] = h[i] ^^^ (s2[i] &&& m[i]) :=
  Vector.getElem_ofFn i.isLt

/-- Settles O47, by the bytes of `combine`. -/
theorem hcombCombinesUnderTheMask : Obligations.HcombCombinesUnderTheMask :=
  fun s => ⟨_, rfl, getElem_combine s.h s.s2 (maskOf s.cfg s.h).2, rfl⟩

/-! ## Val of the combination (R62, R189) -/

/-- The first byte holds the low eight bits. -/
theorem testBit_leNat_cons (b : Byte) (bs : List Byte) (j : Nat) :
    (leNat (b :: bs)).testBit j = if j < 8 then b.toNat.testBit j else (leNat bs).testBit (j - 8) := by
  rw [leNat, Nat.add_comm]
  exact Nat.testBit_two_pow_mul_add _ b.isLt j

/-- Combining byte by byte is combining the numbers. -/
theorem leNat_ofFn_combine {n : Nat} (h s2 m : Fin n → Byte) :
    leNat (List.ofFn fun i => h i ^^^ (s2 i &&& m i)) =
      leNat (List.ofFn h) ^^^ (leNat (List.ofFn s2) &&& leNat (List.ofFn m)) := by
  induction n with
  | zero => simp [leNat]
  | succ n ih =>
    refine Nat.eq_of_testBit_eq fun j => ?_
    simp only [List.ofFn_succ, ih, Nat.testBit_xor, Nat.testBit_and, testBit_leNat_cons, BitVec.toNat_xor,
      BitVec.toNat_and]
    split_ifs <;> rfl

/-- Either byte order reads the bytes at fixed places. -/
theorem exists_orderedBytes_eq_ofFn (o : HashOrder) :
    ∃ σ : Fin 32 → Fin 32, ∀ x : Vector Byte 32, orderedBytes o x = List.ofFn fun i => x[σ i] := by
  cases o with
  | le => exact ⟨id, toList_eq_ofFn⟩
  | be => exact ⟨Fin.rev, reverse_toList_eq_ofFn⟩

theorem hashVal_combine (o : HashOrder) (h s2 m : Vector Byte 32) :
    hashVal o (combine h s2 m) = hashVal o h ^^^ (hashVal o s2 &&& hashVal o m) := by
  obtain ⟨σ, hσ⟩ := exists_orderedBytes_eq_ofFn o
  simp only [hashVal, hσ, getElem_combine]
  exact leNat_ofFn_combine _ _ _

/-! ## The leading-zero count by bounds and by bits (R186) -/

theorem le_clz256_iff (o : HashOrder) (x : Vector Byte 32) {k : Nat} (hk : k ≤ 256) :
    k ≤ clz256 o x ↔ hashVal o x < 2 ^ (256 - k) := by
  by_cases hx : hashVal o x = 0
  · rw [clz256_of_zero hx, hx]
    exact iff_of_true hk (Nat.two_pow_pos _)
  · have hlog : Nat.log2 (hashVal o x) < 256 := (Nat.log2_lt hx).mpr (hashVal_lt_two_pow o x)
    rw [clz256, if_neg hx, ← Nat.log2_lt hx]
    omega

theorem hashVal_lt_two_pow_clz256 (o : HashOrder) (x : Vector Byte 32) : hashVal o x < 2 ^ (256 - clz256 o x) :=
  (le_clz256_iff o x (clz256_le o x)).mp le_rfl

/-- Where at least k leading bits are zero, there are exactly k when the next bit is one. -/
theorem clz256_eq_iff_testBit {o : HashOrder} {x : Vector Byte 32} {k : Nat} (hk : k < 256) (hle : k ≤ clz256 o x) :
    clz256 o x = k ↔ (hashVal o x).testBit (255 - k) = true := by
  have hlt := (le_clz256_iff o x hk.le).mp hle
  have hnext := le_clz256_iff o x (Nat.succ_le_of_lt hk)
  have hwidth : 256 - k = 255 - k + 1 := by omega
  have hwidth' : 256 - (k + 1) = 255 - k := by omega
  rw [hwidth] at hlt
  rw [hwidth'] at hnext
  constructor
  · intro heq
    exact Nat.testBit_of_two_pow_le_and_two_pow_add_one_gt (by omega) hlt
  · intro hbit
    have hge := Nat.ge_two_pow_of_testBit hbit
    omega

/-! ## Mask conformance (R190) -/

theorem testBit_hashVal_above_clz256 {o : HashOrder} {x : Vector Byte 32} {j : Nat} (hj : 256 - clz256 o x ≤ j) :
    (hashVal o x).testBit j = false :=
  Nat.testBit_lt_two_pow ((hashVal_lt_two_pow_clz256 o x).trans_le (Nat.pow_le_pow_right (by decide) hj))

section
variable {c : Config} {h : Vector Byte 32} (hexc : c.maskExceptions.lookup h = none) (s2 : Vector Byte 32)
include hexc

/-- The decided mask lets the bits of Val(S2) through from bit 255 − k down, where the highest one of Val(H) is. -/
theorem hashVal_combine_maskOf_default :
    hashVal c.hashOrder (combine h s2 (maskOf c h).2) =
      hashVal c.hashOrder h ^^^ (hashVal c.hashOrder s2 &&& (2 ^ (256 - clz256 c.hashOrder h) - 1)) := by
  rw [hashVal_combine, hashVal_maskOf_default hexc]

theorem testBit_hashVal_combine_maskOf_default (j : Nat) :
    (hashVal c.hashOrder (combine h s2 (maskOf c h).2)).testBit j =
      ((hashVal c.hashOrder h).testBit j ^^
        ((hashVal c.hashOrder s2).testBit j && decide (j < 256 - clz256 c.hashOrder h))) := by
  rw [hashVal_combine_maskOf_default hexc, Nat.testBit_xor, Nat.testBit_and, Nat.testBit_two_pow_sub_one]

theorem clz256_le_clz256_combine : clz256 c.hashOrder h ≤ clz256 c.hashOrder (combine h s2 (maskOf c h).2) := by
  rw [le_clz256_iff _ _ (clz256_le _ _), hashVal_combine_maskOf_default hexc]
  exact Nat.xor_lt_two_pow (hashVal_lt_two_pow_clz256 _ _)
    (Nat.and_lt_two_pow _ (Nat.sub_one_lt (Nat.two_pow_pos _).ne'))

/-- Bit 255 − k of Val(H) is one, so that of Val(OUT) is one exactly when that of Val(S2) is zero. -/
theorem clz256_combine_eq_iff (hk : clz256 c.hashOrder h < 256) :
    clz256 c.hashOrder (combine h s2 (maskOf c h).2) = clz256 c.hashOrder h ↔
      (hashVal c.hashOrder s2).testBit (255 - clz256 c.hashOrder h) = false := by
  have htop := (clz256_eq_iff_testBit hk le_rfl).mp rfl
  have hin : 255 - clz256 c.hashOrder h < 256 - clz256 c.hashOrder h := by omega
  rw [clz256_eq_iff_testBit hk (clz256_le_clz256_combine hexc s2), testBit_hashVal_combine_maskOf_default hexc, htop,
    decide_eq_true hin, Bool.and_true, Bool.true_xor, Bool.not_eq_true']

end

/-- Settles O48, by the bits of Val(OUT): the mask shuts at 256 − k, where Val(H) ends. -/
theorem outputConformsToTheMask : Obligations.OutputConformsToTheMask := by
  rintro s _ hexc rfl
  refine ⟨_, rfl, fun j hj _ => ⟨?_, testBit_hashVal_above_clz256 hj⟩, fun j hj => ?_,
    clz256_le_clz256_combine hexc s.s2, clz256_combine_eq_iff hexc s.s2⟩
  · refine (testBit_hashVal_combine_maskOf_default hexc s.s2 j).trans ?_
    rw [decide_eq_false hj.not_gt, Bool.and_false, Bool.xor_false]
  · refine (testBit_hashVal_combine_maskOf_default hexc s.s2 j).trans ?_
    rw [decide_eq_true hj, Bool.and_true]

end Sys2Proof.Machine
end

section
/-! PROOFS. The WIPE command (R210). -/

namespace Sys2Proof.Machine

open Sys2Proof

/-- A block of zeros from address 0: zero below its length, and the old byte from there up. -/
theorem Memory.byte_store_zeros (fresh : Nat → Byte) (m : Memory) (n a : Nat) :
    Memory.byte fresh (Memory.store m 0 (List.replicate n 0)) a = if a < n then 0 else Memory.byte fresh m a := by
  split_ifs with h
  · rw [Memory.byte_store, List.length_replicate, if_pos (by omega), List.getD_replicate _ (by omega)]
  · exact Memory.byte_store_zeros_above fresh m (not_lt.mp h)

theorem getElem_zeros {α : Type} [Zero α] {n : Nat} (i : Fin n) : (Vector.replicate n (0 : α))[i] = 0 :=
  Vector.getElem_replicate i.isLt

/-- Settles O49: three blocks of zeros in BUF, XY and V (`Memory.byte_store_zeros`), and vectors of zeros elsewhere. -/
theorem wipeZeroesEveryDataBuffer : Obligations.WipeZeroesEveryDataBuffer :=
  fun s => ⟨s.zeroBuffers.finish, rfl,
    Memory.byte_store_zeros (s.fresh .buf) s.buf (128 * s.cfg.rMax),
    Memory.byte_store_zeros (s.fresh .xy) s.xy (256 * s.cfg.rMax),
    Memory.byte_store_zeros (s.fresh .v) s.v s.cfg.vBytes,
    fun i => ⟨getElem_zeros i, getElem_zeros i⟩,
    fun i => ⟨getElem_zeros i, getElem_zeros i, getElem_zeros i, getElem_zeros i⟩,
    fun i => ⟨getElem_zeros i, getElem_zeros i⟩, rfl⟩

end Sys2Proof.Machine
end

section
/-! PROOFS. The interrupt output (R227), the accesses that get BusError (R225, R64), and the precision of errors (R230). -/

namespace Sys2Proof.Machine

open Sys2Proof

/-! ## The interrupt output (R227) -/

/-- Bit 0 of the word a read of IE returns is EN (R28). -/
theorem State.getLsbD_regWord_ie (s : State) : (s.regWord .ie).getLsbD 0 = s.ieEn := by
  rw [State.regWord, BitVec.getLsbD_setWidth, BitVec.getLsbD_ofBool]
  rfl

/-- A completion step leaves EN alone and ends with ERROR or with DONE (R92). -/
theorem exec_irq {i : Instr} {s t : State} (h : exec i s = .next t) : t.irq = s.ieEn := by
  rcases exec_next h with ⟨c, -, rfl⟩ | ⟨u, rfl, -, hside⟩
  · simp [State.irq, Status.errorBit]
  · simp [State.irq, hside.ieEn]

/-- Settles O14, from the bits of the words of IE and STATUS and from the two ways a command ends. -/
theorem interruptFollowsStatusAndEnable : Obligations.InterruptFollowsStatusAndEnable := by
  refine ⟨fun s => ?_, fun _ _ _ => exec_irq⟩
  have hdone : (s.regWord .status).getLsbD 1 = s.status.done := s.status.getLsbD_word 1
  have herror : (s.regWord .status).getLsbD 2 = s.status.errorBit := s.status.getLsbD_word 2
  rw [s.getLsbD_regWord_ie, hdone, herror, State.irq]

/-! ## Accesses that get BusError (R225, R64) -/

/-- A read or a write that reaches nothing is answered at once, a command in flight or not (R71). -/
theorem step_unmapped {s : State} {e : HostEvent} {width addr : Nat} {v : Word} {rest : List HostEvent}
    (hplace : accessPlace s.cfg width addr = .unmapped) (he : e = .read width addr ∨ e = .write width addr v)
    (hp : s.pending = e :: rest) (hm : s.status.busy = false ∨ 0 < s.delay) :
    step s = .next ((s.take rest).respond .busError) := by
  have atonce : atOnce s.cfg e = true := by
    rcases he with rfl | rfl <;> exact congrArg Place.neverStalls hplace
  rw [step_of_hostMoves hp (hm.imp_right fun hd => ⟨atonce, hd⟩)]
  rcases he with rfl | rfl <;> simp only [State.hostStep, hplace] <;> rfl

/-- Settles O17: such an access reaches nothing (`accessPlace_unmapped`), so the step only takes it and answers. -/
theorem busErrorChangesNothing : Obligations.BusErrorChangesNothing := by
  intro s width off v rest hbad hm hp
  have hplace := accessPlace_unmapped s.cfg width off hbad
  refine ⟨(s.take rest).respond .busError, ?_, rfl, rfl⟩
  rcases hp with hread | hwrite
  · exact step_unmapped (v := v) hplace (.inl rfl) hread hm
  · exact step_unmapped hplace (.inr rfl) hwrite hm

/-! ## Errors are precise (R230) -/

/-- Settles O52: a command that runs to its completion leaves ERROR as it was, so one that ends with an error is an error
entry. -/
theorem errorsArePrecise : Obligations.ErrorsArePrecise := by
  intro i s t c hnone ht herr
  rcases exec_next ht with ⟨c', -, rfl⟩ | ⟨u, rfl, hstatus, -⟩
  · obtain rfl : c' = c := Option.some.inj herr
    rfl
  · have hkept : u.finish.status.error = none := by rw [State.finish_status, Status.completed_error, hstatus, hnone]
    cases hkept.symm.trans herr

end Sys2Proof.Machine
end

section
/-! PROOFS. `rst` (R260, R263), and that every command in flight ends within its delay (R275). -/

namespace Sys2Proof.Machine

open Sys2Proof

/-! ## Reset (R260, R263) -/

/-- Settles O16: `rst` never stalls (R263), so the step is `State.applyReset` of the state that has taken it. -/
theorem resetAbandonsTheCommandInFlight : Obligations.ResetAbandonsTheCommandInFlight := by
  intro s rest hp hm
  have hmoves : s.hostMoves .reset := hm.imp_right fun hd => ⟨rfl, hd⟩
  exact step_of_hostMoves hp hmoves

/-! ## The end of a command in flight (R275) -/

/-- A write that does not stall (R71) neither ends the command in flight nor lengthens its delay. -/
theorem writePlace_busy_delay {s : State} {p : Place} (v : Word) (h : p.neverStalls = true) :
    (s.writePlace p v).status.busy = s.status.busy ∧ (s.writePlace p v).delay = s.delay := by
  cases p with
  | reg name =>
    cases name with
    | status | ie => exact ⟨rfl, rfl⟩
    | cmd | n | r | p | mult | diff | tblidx | k => cases h
  | window name t => cases h
  | reserved => cases h
  | unmapped => exact ⟨rfl, rfl⟩

/-- An event performed before the completion step uses up one of the delay, or is `rst`, which ends the command. -/
theorem hostStep_inFlight {s : State} {e : HostEvent} (rest : List HostEvent) (hb : s.status.busy = true)
    (ha : atOnce s.cfg e = true) :
    (s.hostStep e rest).status.busy = false ∨
      (s.hostStep e rest).status.busy = true ∧ (s.hostStep e rest).delay = s.delay - 1 := by
  cases e with
  | read width addr => exact .inr ⟨hb, if_pos hb⟩
  | poll => exact .inr ⟨hb, if_pos hb⟩
  | reset => exact .inl rfl
  | write width addr data =>
    obtain ⟨hbusy, hdelay⟩ := writePlace_busy_delay (s := s.take rest) data ha
    exact .inr ⟨hbusy.trans hb, hdelay.trans (if_pos hb)⟩

/-- One step of a command in flight ends it or shortens its delay. -/
theorem step_inFlight {s : State} (hb : s.status.busy = true) :
    ∃ t : State, step s = .next t ∧ (t.status.busy = false ∨ t.status.busy = true ∧ t.delay < s.delay) := by
  rcases step_eq s with ⟨-, hstep⟩ | ⟨e, rest, -, hturn, hstep⟩ | ⟨-, hidle, -, -⟩
  · obtain ⟨t, ht⟩ := completion_is_next s
    exact ⟨t, hstep.trans ht, .inl (completion_pending_busy ht).2⟩
  · obtain ⟨-, hmoves⟩ := (turn_host_iff s e rest).mp hturn
    obtain ⟨ha, hd⟩ := hmoves.resolve_left (by simp [hb])
    exact ⟨_, hstep, (hostStep_inFlight rest hb ha).imp_right fun ⟨hbusy, hdelay⟩ => ⟨hbusy, by omega⟩⟩
  · cases hb.symm.trans hidle

/-- Settles O11, by recursion on the delay: each step ends the command or shortens it (`step_inFlight`). -/
theorem acceptedCommandCompletes : Obligations.AcceptedCommandCompletes := by
  intro s hb
  obtain ⟨t, hstep, hidle | ⟨hbusy, hshorter⟩⟩ := step_inFlight hb
  · exact ⟨1, t, by omega, run_succ hstep 0, hidle⟩
  · obtain ⟨j, u, hj, hrun, hidle⟩ := acceptedCommandCompletes t hbusy
    exact ⟨j + 1, u, by omega, (run_succ hstep j).trans hrun, hidle⟩
termination_by s => s.delay

end Sys2Proof.Machine
end
